-- ==== Sys2Proof/Word.lean ====
section
/-! DEFINITION. The bit-vector types of the block: a character of a symbol (30_encoding.md R41) and
the words spec/opcode_table.json writes its rows in (R55). -/

namespace Sys2Proof

/-- One character of a symbol, `CHAR_BITS` = 8 bits (00_scope.md R5, 30_encoding.md R41). -/
abbrev Byte := BitVec 8

/-- A row's word as spec/opcode_table.json numbers it (30_encoding.md R55): a sample word or a port word
in bits 1..0, or a key in bits 31..0. The block stores no such word anywhere (20_memory.md R20). -/
abbrev Word := BitVec 32

end Sys2Proof
end

