-- ==== Sys2Proof/Config.lean ====
section
/-! DEFINITION. What is fixed when the block is built (00_scope.md R5), and the free values of the
output registers (93_implementation_defined.md U4). The ROM's contents, the remaining parameter, stand in
Sys2Proof/Machine/Rom.lean. -/

namespace Sys2Proof.Config

/-- `W`, the width of `acc`: OPEN in the spec with default 32 (00_scope.md R5, 92_eei_decisions.md D1).
DESIGN CHOICE (log 1), unsafe on runs that overflow: State is instantiated at the default. The operations
of Operands.lean, Flags.lean, Rom.lean and the step function of Ops.lean take any width. -/
abbrev W : Nat := 32

/-- The least legal `W` and the length of the longest key (00_scope.md R5). -/
abbrev keyMaxBits : Nat := 13

/-- The number of entries of the lookup ROM (00_scope.md R5). -/
abbrev romEntries : Nat := 128

/-- The number of low zero bits the end-of-character detector asks for (00_scope.md R5). -/
abbrev eocZeros : Nat := 3

/-- The greatest number of characters in one symbol (00_scope.md R5). -/
abbrev symMaxChars : Nat := 2

/-- Free value (log 5): `sym_len` after the `n`-th edge, where the spec leaves it unspecified
(93_implementation_defined.md U4: while `sym_valid = 0`). -/
opaque unspecifiedSymLen : Nat → BitVec 2

/-- Free value (log 5): `sym_char0` after the `n`-th edge, where the spec leaves it unspecified
(93_implementation_defined.md U4: while `sym_valid = 0`). -/
opaque unspecifiedSymChar0 : Nat → Byte

/-- Free value (log 5): `sym_char1` after the `n`-th edge, where the spec leaves it unspecified
(93_implementation_defined.md U4: while `sym_valid = 0`, or `sym_len = 1`). -/
opaque unspecifiedSymChar1 : Nat → Byte

end Sys2Proof.Config
end

