-- ==== Sys2Proof/Syntax.lean ====
section
/-! DEFINITION. The data the block works on (samples, clock edges, symbols, ROM entries) and `Instr`, one
constructor for each of the 136 rows of spec/opcode_table.json. -/

namespace Sys2Proof

/-- A sample, format S (30_encoding.md R35): `s.clock` and `s.data`, 1 = line high. -/
structure Sample where
  clock : Bool
  data : Bool
deriving DecidableEq, Repr

/-- The inputs of the block at one rising edge of `clk` (43_varicode_decoder.md R99). -/
structure Edge where
  rst : Bool
  sampleEn : Bool
  clockIn : Bool
  dataIn : Bool
deriving DecidableEq, Repr

/-- A symbol, format Y (30_encoding.md R41): a sequence of one or two characters, the first delivered
first (20_memory.md R23). -/
inductive Symbol where
  | one (char0 : Byte)
  | two (char0 char1 : Byte)
deriving DecidableEq, Repr

/-- An entry of the lookup ROM (20_memory.md R20): a key, format K (30_encoding.md R38), and its symbol. -/
structure RomEntry where
  key : Nat
  sym : Symbol
deriving DecidableEq, Repr

/-- The contents of a lookup ROM: the parameter `ROM` of 00_scope.md R5. -/
abbrev Rom := List RomEntry

/-- The six outcomes of a step (00_scope.md R8, 43_varicode_decoder.md R90). -/
inductive StepOutcome where
  | arm | hold | shift | emit | drop | ovf
deriving DecidableEq, Repr

/-- The conditions that arise inside the block (60_exceptions.md R111, R112). -/
inductive Condition where
  | lookupNotFound
  | accumulatorOverflow
deriving DecidableEq, Repr

/-- The formats of spec/opcode_table.json (30_encoding.md R55): a sample word, a port word, a key. -/
inductive Format where
  | sample | port | key
deriving DecidableEq, Repr

/-- The state columns of the operation map (30_encoding.md R53): with the sample word they select the row
of format S. -/
structure Conditions where
  armed : Bool
  ovf : Bool
  eoc : Bool
  hit : Bool
deriving DecidableEq, Repr

/-- Why a word decodes to no row of its format. -/
inductive Reject where
  /-- A sample word or port word has a bit set above bit 1 (30_encoding.md R35, R55). -/
  | bitsAboveTheWord
  /-- The columns say `eoc = 1` beside a data bit 1, which 42_bit_accumulator.md R83 rules out. -/
  | eocWithDataOne
  /-- The port word 01 (`rst = 0`, `sample_en = 1`): the sample word selects the row (30_encoding.md R54). -/
  | sampleConsumed
  /-- The word is no key of the table: unmapped, `RomRead` answers NotFound (30_encoding.md R50). -/
  | unmappedKey
deriving DecidableEq, Repr

/-- The rows of spec/opcode_table.json. A row of format S carries the data bit of its sample word where
the row leaves it open (R36: ARM, HOLD and OVF do not read it); EMIT and DROP have data bit 0. RESET carries
`sample_en`, which it does not read (R130). A row of format K names one ROM entry; as an instruction it is
the EMIT step whose symbol is that entry's (43_varicode_decoder.md R94). -/
inductive Instr where
  | arm (data : Bool)  -- ARM, sample word 1x (R91)
  | hold (data : Bool)  -- HOLD, sample word 0x, armed = 0 (R92)
  | shift (data : Bool)  -- SHIFT, sample word 0b, armed = 1, ovf = 0, eoc = 0 (R93)
  | emit  -- EMIT, sample word 00, armed = 1, ovf = 0, eoc = 1, hit = 1 (R94)
  | drop  -- DROP, sample word 00, armed = 1, ovf = 0, eoc = 1, hit = 0 (R95)
  | ovf (data : Bool)  -- OVF, sample word 0x, armed = 1, ovf = 1 (R96)
  | reset (sampleEn : Bool)  -- RESET, port word 1x (R130)
  | idle  -- IDLE, port word 00 (R101)
  | k00  -- K_00, key 0b1010101011000, NUL (R48)
  | k01  -- K_01, key 0b1011011011000, SOH (R48)
  | k02  -- K_02, key 0b1011101101000, STX (R48)
  | k03  -- K_03, key 0b1101110111000, ETX (R48)
  | k04  -- K_04, key 0b1011101011000, EOT (R48)
  | k05  -- K_05, key 0b1101011111000, ENQ (R48)
  | k06  -- K_06, key 0b1011101111000, ACK (R48)
  | k07  -- K_07, key 0b1011111101000, BEL (R48)
  | k08  -- K_08, key 0b1011111111000, BS (R48)
  | k09  -- K_09, key 0b11101111000, HT (R48)
  | k0A  -- K_0A, key 0b11101000, LF code -> CR LF (R46)
  | k0B  -- K_0B, key 0b1101101111000, VT (R48)
  | k0C  -- K_0C, key 0b1011011101000, FF (R48)
  | k0D  -- K_0D, key 0b11111000, CR code -> CR LF (R47)
  | k0E  -- K_0E, key 0b1101110101000, SO (R48)
  | k0F  -- K_0F, key 0b1110101011000, SI (R48)
  | k10  -- K_10, key 0b1011110111000, DLE (R48)
  | k11  -- K_11, key 0b1011110101000, DC1 (R48)
  | k12  -- K_12, key 0b1110101101000, DC2 (R48)
  | k13  -- K_13, key 0b1110101111000, DC3 (R48)
  | k14  -- K_14, key 0b1101011011000, DC4 (R48)
  | k15  -- K_15, key 0b1101101011000, NAK (R48)
  | k16  -- K_16, key 0b1101101101000, SYN (R48)
  | k17  -- K_17, key 0b1101010111000, ETB (R48)
  | k18  -- K_18, key 0b1101111011000, CAN (R48)
  | k19  -- K_19, key 0b1101111101000, EM (R48)
  | k1A  -- K_1A, key 0b1110110111000, SUB (R48)
  | k1B  -- K_1B, key 0b1101010101000, ESC (R48)
  | k1C  -- K_1C, key 0b1101011101000, FS (R48)
  | k1D  -- K_1D, key 0b1110111011000, GS (R48)
  | k1E  -- K_1E, key 0b1011111011000, RS (R48)
  | k1F  -- K_1F, key 0b1101111111000, US (R48)
  | k20  -- K_20, key 0b1000, SP (R49)
  | k21  -- K_21, key 0b111111111000, ! (R49)
  | k22  -- K_22, key 0b101011111000, " (R49)
  | k23  -- K_23, key 0b111110101000, # (R49)
  | k24  -- K_24, key 0b111011011000, $ (R49)
  | k25  -- K_25, key 0b1011010101000, % (R49)
  | k26  -- K_26, key 0b1010111011000, & (R49)
  | k27  -- K_27, key 0b101111111000, ' (R49)
  | k28  -- K_28, key 0b11111011000, ( (R49)
  | k29  -- K_29, key 0b11110111000, ) (R49)
  | k2A  -- K_2A, key 0b101101111000, * (R49)
  | k2B  -- K_2B, key 0b111011111000, + (R49)
  | k2C  -- K_2C, key 0b1110101000, , (R49)
  | k2D  -- K_2D, key 0b110101000, - (R49)
  | k2E  -- K_2E, key 0b1010111000, . (R49)
  | k2F  -- K_2F, key 0b110101111000, / (R49)
  | k30  -- K_30, key 0b10110111000, 0 (R49)
  | k31  -- K_31, key 0b10111101000, 1 (R49)
  | k32  -- K_32, key 0b11101101000, 2 (R49)
  | k33  -- K_33, key 0b11111111000, 3 (R49)
  | k34  -- K_34, key 0b101110111000, 4 (R49)
  | k35  -- K_35, key 0b101011011000, 5 (R49)
  | k36  -- K_36, key 0b101101011000, 6 (R49)
  | k37  -- K_37, key 0b110101101000, 7 (R49)
  | k38  -- K_38, key 0b110101011000, 8 (R49)
  | k39  -- K_39, key 0b110110111000, 9 (R49)
  | k3A  -- K_3A, key 0b11110101000, : (R49)
  | k3B  -- K_3B, key 0b110111101000, ; (R49)
  | k3C  -- K_3C, key 0b111101101000, < (R49)
  | k3D  -- K_3D, key 0b1010101000, = (R49)
  | k3E  -- K_3E, key 0b111010111000, > (R49)
  | k3F  -- K_3F, key 0b1010101111000, ? (R49)
  | k40  -- K_40, key 0b1010111101000, @ (R49)
  | k41  -- K_41, key 0b1111101000, A (R49)
  | k42  -- K_42, key 0b11101011000, B (R49)
  | k43  -- K_43, key 0b10101101000, C (R49)
  | k44  -- K_44, key 0b10110101000, D (R49)
  | k45  -- K_45, key 0b1110111000, E (R49)
  | k46  -- K_46, key 0b11011011000, F (R49)
  | k47  -- K_47, key 0b11111101000, G (R49)
  | k48  -- K_48, key 0b101010101000, H (R49)
  | k49  -- K_49, key 0b1111111000, I (R49)
  | k4A  -- K_4A, key 0b111111101000, J (R49)
  | k4B  -- K_4B, key 0b101111101000, K (R49)
  | k4C  -- K_4C, key 0b11010111000, L (R49)
  | k4D  -- K_4D, key 0b10111011000, M (R49)
  | k4E  -- K_4E, key 0b11011101000, N (R49)
  | k4F  -- K_4F, key 0b10101011000, O (R49)
  | k50  -- K_50, key 0b11010101000, P (R49)
  | k51  -- K_51, key 0b111011101000, Q (R49)
  | k52  -- K_52, key 0b10101111000, R (R49)
  | k53  -- K_53, key 0b1101111000, S (R49)
  | k54  -- K_54, key 0b1101101000, T (R49)
  | k55  -- K_55, key 0b101010111000, U (R49)
  | k56  -- K_56, key 0b110110101000, V (R49)
  | k57  -- K_57, key 0b101011101000, W (R49)
  | k58  -- K_58, key 0b101110101000, X (R49)
  | k59  -- K_59, key 0b101111011000, Y (R49)
  | k5A  -- K_5A, key 0b1010101101000, Z (R49)
  | k5B  -- K_5B, key 0b111110111000, [ (R49)
  | k5C  -- K_5C, key 0b111101111000, \ (R49)
  | k5D  -- K_5D, key 0b111111011000, ] (R49)
  | k5E  -- K_5E, key 0b1010111111000, ^ (R49)
  | k5F  -- K_5F, key 0b101101101000, _ (R49)
  | k60  -- K_60, key 0b1011011111000, grave accent (R49)
  | k61  -- K_61, key 0b1011000, a (R49)
  | k62  -- K_62, key 0b1011111000, b (R49)
  | k63  -- K_63, key 0b101111000, c (R49)
  | k64  -- K_64, key 0b101101000, d (R49)
  | k65  -- K_65, key 0b11000, e (R45)
  | k66  -- K_66, key 0b111101000, f (R49)
  | k67  -- K_67, key 0b1011011000, g (R49)
  | k68  -- K_68, key 0b101011000, h (R49)
  | k69  -- K_69, key 0b1101000, i (R49)
  | k6A  -- K_6A, key 0b111101011000, j (R49)
  | k6B  -- K_6B, key 0b10111111000, k (R49)
  | k6C  -- K_6C, key 0b11011000, l (R49)
  | k6D  -- K_6D, key 0b111011000, m (R49)
  | k6E  -- K_6E, key 0b1111000, n (R49)
  | k6F  -- K_6F, key 0b111000, o (R49)
  | k70  -- K_70, key 0b111111000, p (R49)
  | k71  -- K_71, key 0b110111111000, q (R49)
  | k72  -- K_72, key 0b10101000, r (R49)
  | k73  -- K_73, key 0b10111000, s (R49)
  | k74  -- K_74, key 0b101000, t (R49)
  | k75  -- K_75, key 0b110111000, u (R49)
  | k76  -- K_76, key 0b1111011000, v (R49)
  | k77  -- K_77, key 0b1101011000, w (R49)
  | k78  -- K_78, key 0b11011111000, x (R49)
  | k79  -- K_79, key 0b1011101000, y (R49)
  | k7A  -- K_7A, key 0b111010101000, z (R49)
  | k7B  -- K_7B, key 0b1010110111000, { (R49)
  | k7C  -- K_7C, key 0b110111011000, | (R49)
  | k7D  -- K_7D, key 0b1010110101000, } (R49)
  | k7E  -- K_7E, key 0b1011010111000, ~ (R49)
  | k7F  -- K_7F, key 0b1110110101000, DEL (R48)
deriving DecidableEq, Repr

end Sys2Proof
end

