-- ==== Sys2Proof/WellFormed.lean ====
section
/-! DEFINITION. What makes configured data legal: a width (00_scope.md R5) and a ROM (30_encoding.md R44).
An `Instr` needs no check: its operands are single bits, every value of which the row's encoding admits, and
a `Symbol` has one or two characters by its type (R44 item 8). -/

namespace Sys2Proof

/-- `W >= 13` (00_scope.md R5). -/
def legalWidth (w : Nat) : Bool := decide (Config.keyMaxBits ≤ w)

/-- Carriage return, line feed, in that order (20_memory.md R23). -/
def crLf : Symbol := .two 0x0D 0x0A

/-- R44 item 1: exactly 128 entries. -/
def Rom.countOk (rom : Rom) : Bool := rom.length == Config.romEntries

/-- R44 item 1: the keys are pairwise distinct. -/
def Rom.distinctOk (rom : Rom) : Bool := decide (rom.map RomEntry.key).Nodup

/-- R44 item 2: no key is zero. -/
def Rom.nonzeroOk (rom : Rom) : Bool := rom.all fun e => e.key != 0

/-- R44 item 3: every key is a multiple of 8. -/
def Rom.paddedOk (rom : Rom) : Bool := rom.all fun e => e.key % 8 == 0

/-- R44 item 4: every key is below `2^13`. -/
def Rom.boundedOk (rom : Rom) : Bool := rom.all fun e => decide (e.key < 2 ^ Config.keyMaxBits)

/-- R44 item 4: at least one key has exactly 13 significant bits. -/
def Rom.longestOk (rom : Rom) : Bool :=
  rom.any fun e => decide (2 ^ (Config.keyMaxBits - 1) ≤ e.key ∧ e.key < 2 ^ Config.keyMaxBits)

/-- R44 item 5: the key `0b11000` holds "e". -/
def Rom.letterEOk (rom : Rom) : Bool := rom.contains ⟨0b11000, .one 0x65⟩

/-- R44 item 6: the key `0b11101000` holds carriage return, line feed. -/
def Rom.lineEndingOk (rom : Rom) : Bool := rom.contains ⟨0b11101000, crLf⟩

/-- R44 item 7: exactly one other key holds the same two-character symbol. -/
def Rom.secondLineEndingOk (rom : Rom) : Bool := (rom.filter fun e => e.sym == crLf).length == 2

/-- R44 item 10, of one key: the code `k >> 3` is odd. -/
def codeOddOk (k : Nat) : Bool := (k >>> 3) % 2 == 1

/-- R44 item 10, of one key: the binary form of `k >> 3` contains no three consecutive zeros. (A key has at
most 13 bits, so its code has no bit at or above position 13.) -/
def codeZerosOk (k : Nat) : Bool :=
  (List.range Config.keyMaxBits).all fun i => (k >>> (3 + i)) == 0 || (k >>> (3 + i)) % 8 != 0

/-- R44 item 10. -/
def Rom.codesOk (rom : Rom) : Bool := rom.all fun e => codeOddOk e.key && codeZerosOk e.key

/-- The 95 characters of "printable ASCII 0x20–0x7E" (30_encoding.md R44 item 9, R49). -/
def printableChars : List Byte := (List.range 95).map fun i => BitVec.ofNat 8 (0x20 + i)

/-- A symbol that is one printable character (30_encoding.md R49). -/
def Symbol.isPrintable (y : Symbol) : Bool := printableChars.any fun c => y == .one c

/-- The printable characters that some entry holds as its symbol. -/
def Rom.printablesHeld (rom : Rom) : List Byte := printableChars.filter fun c => rom.any fun e => e.sym == .one c

/-- R44 item 9: 95 of the entries stand for the printable characters. The item leaves open that one printable
label stands twice, in the place of another (91_not_in_source.md N3), so 95 entries hold a printable character and
at least 94 different ones are held: DEDUCED (log 14). The other places, beside the two line endings of items 6
and 7, are the 30 control codes left and DEL, whose symbols the item leaves open (91_not_in_source.md N2). -/
def Rom.coverageOk (rom : Rom) : Bool :=
  decide (printableChars.length ≤ (rom.filter fun e => e.sym.isPrintable).length)
    && decide (printableChars.length ≤ rom.printablesHeld.length + 1)

/-- The constraints every value of the parameter `ROM` meets (30_encoding.md R44). -/
def Rom.legal (rom : Rom) : Bool :=
  rom.countOk && rom.distinctOk && rom.nonzeroOk && rom.paddedOk && rom.boundedOk && rom.longestOk
    && rom.letterEOk && rom.lineEndingOk && rom.secondLineEndingOk && rom.coverageOk && rom.codesOk

end Sys2Proof
end

