-- ==== Sys2Proof/Decode.lean ====
section
/-! DEFINITION. The decoder and the encoder of the rows of spec/opcode_table.json (30_encoding.md R53 to R55).

Three formats, so three decoders: a sample word together with the state columns of R53 selects a row of
format S, a port word a row of format PORT, a key a row of format K. -/

namespace Sys2Proof

/-- Bit `i` of a row's word. -/
def wordBit (w : Word) (i : Nat) : Bool := w.getLsbD i

/-- The word of two bits `b1 ‖ b0`. -/
def wordOfBits (b1 b0 : Bool) : Word := (BitVec.ofBool b1 ++ BitVec.ofBool b0).setWidth 32

/-- The operation map, 30_encoding.md R53, row by row: the row of format S that the sample and the state
columns select. Columns the map marks `x` are not read. -/
def selectSample (smp : Sample) (c : Conditions) : Instr :=
  if smp.clock then .arm smp.data
  else if !c.armed then .hold smp.data
  else if c.ovf then .ovf smp.data
  else if !(c.eoc && !smp.data) then .shift smp.data
  else if c.hit then .emit
  else .drop

/-- The sample of a sample word: `s[1]` clock, `s[0]` data (30_encoding.md R35). -/
def sampleOfWord (w : Word) : Sample := ⟨wordBit w 1, wordBit w 0⟩

/-- Decode a sample word. -/
def decodeSample (c : Conditions) (w : Word) : Except Reject Instr :=
  if 4 ≤ w.toNat then .error .bitsAboveTheWord
  else if !wordBit w 1 && wordBit w 0 && c.armed && !c.ovf && c.eoc then .error .eocWithDataOne
  else .ok (selectSample (sampleOfWord w) c)

/-- Decode a port word, `rst ‖ sample_en` (30_encoding.md R54, R55). -/
def decodePort (w : Word) : Except Reject Instr :=
  if 4 ≤ w.toNat then .error .bitsAboveTheWord
  else if wordBit w 1 then .ok (.reset (wordBit w 0))
  else if wordBit w 0 then .error .sampleConsumed
  else .ok .idle

def keyTable0 : List (Nat × Instr) :=
  [(5464, .k00), (5848, .k01), (5992, .k02), (7096, .k03),
   (5976, .k04), (6904, .k05), (6008, .k06), (6120, .k07),
   (6136, .k08), (1912, .k09), (232, .k0A), (7032, .k0B),
   (5864, .k0C), (248, .k0D), (7080, .k0E), (7512, .k0F)]
def keyTable1 : List (Nat × Instr) :=
  [(6072, .k10), (6056, .k11), (7528, .k12), (7544, .k13),
   (6872, .k14), (7000, .k15), (7016, .k16), (6840, .k17),
   (7128, .k18), (7144, .k19), (7608, .k1A), (6824, .k1B),
   (6888, .k1C), (7640, .k1D), (6104, .k1E), (7160, .k1F)]
def keyTable2 : List (Nat × Instr) :=
  [(8, .k20), (4088, .k21), (2808, .k22), (4008, .k23),
   (3800, .k24), (5800, .k25), (5592, .k26), (3064, .k27),
   (2008, .k28), (1976, .k29), (2936, .k2A), (3832, .k2B),
   (936, .k2C), (424, .k2D), (696, .k2E), (3448, .k2F)]
def keyTable3 : List (Nat × Instr) :=
  [(1464, .k30), (1512, .k31), (1896, .k32), (2040, .k33),
   (3000, .k34), (2776, .k35), (2904, .k36), (3432, .k37),
   (3416, .k38), (3512, .k39), (1960, .k3A), (3560, .k3B),
   (3944, .k3C), (680, .k3D), (3768, .k3E), (5496, .k3F)]
def keyTable4 : List (Nat × Instr) :=
  [(5608, .k40), (1000, .k41), (1880, .k42), (1384, .k43),
   (1448, .k44), (952, .k45), (1752, .k46), (2024, .k47),
   (2728, .k48), (1016, .k49), (4072, .k4A), (3048, .k4B),
   (1720, .k4C), (1496, .k4D), (1768, .k4E), (1368, .k4F)]
def keyTable5 : List (Nat × Instr) :=
  [(1704, .k50), (3816, .k51), (1400, .k52), (888, .k53),
   (872, .k54), (2744, .k55), (3496, .k56), (2792, .k57),
   (2984, .k58), (3032, .k59), (5480, .k5A), (4024, .k5B),
   (3960, .k5C), (4056, .k5D), (5624, .k5E), (2920, .k5F)]
def keyTable6 : List (Nat × Instr) :=
  [(5880, .k60), (88, .k61), (760, .k62), (376, .k63),
   (360, .k64), (24, .k65), (488, .k66), (728, .k67),
   (344, .k68), (104, .k69), (3928, .k6A), (1528, .k6B),
   (216, .k6C), (472, .k6D), (120, .k6E), (56, .k6F)]
def keyTable7 : List (Nat × Instr) :=
  [(504, .k70), (3576, .k71), (168, .k72), (184, .k73),
   (40, .k74), (440, .k75), (984, .k76), (856, .k77),
   (1784, .k78), (744, .k79), (3752, .k7A), (5560, .k7B),
   (3544, .k7C), (5544, .k7D), (5816, .k7E), (7592, .k7F)]

/-- The rows of format K by key (30_encoding.md R45 to R49), in the order of the character codes. -/
def keyTable : List (Nat × Instr) :=
  keyTable0 ++ keyTable1 ++ keyTable2 ++ keyTable3 ++ keyTable4 ++ keyTable5 ++ keyTable6 ++ keyTable7

/-- Decode a key: equality of all bits (30_encoding.md R55, 20_memory.md R24). -/
def decodeKey (w : Word) : Except Reject Instr :=
  match keyTable.find? fun p => p.1 == w.toNat with
  | some p => .ok p.2
  | none => .error .unmappedKey

/-- Decode a word of a format; the state columns matter to format S only. -/
def decode (f : Format) (c : Conditions) (w : Word) : Except Reject Instr :=
  match f with
  | .sample => decodeSample c w
  | .port => decodePort w
  | .key => decodeKey w

/-- The format of a row (30_encoding.md R55). -/
def formatOf (i : Instr) : Format :=
  match i with
  | .arm _ | .hold _ | .shift _ | .emit | .drop | .ovf _ => .sample
  | .reset _ | .idle => .port
  | .k00 | .k01 | .k02 | .k03 | .k04 | .k05 | .k06 | .k07
  | .k08 | .k09 | .k0A | .k0B | .k0C | .k0D | .k0E | .k0F
  | .k10 | .k11 | .k12 | .k13 | .k14 | .k15 | .k16 | .k17
  | .k18 | .k19 | .k1A | .k1B | .k1C | .k1D | .k1E | .k1F
  | .k20 | .k21 | .k22 | .k23 | .k24 | .k25 | .k26 | .k27
  | .k28 | .k29 | .k2A | .k2B | .k2C | .k2D | .k2E | .k2F
  | .k30 | .k31 | .k32 | .k33 | .k34 | .k35 | .k36 | .k37
  | .k38 | .k39 | .k3A | .k3B | .k3C | .k3D | .k3E | .k3F
  | .k40 | .k41 | .k42 | .k43 | .k44 | .k45 | .k46 | .k47
  | .k48 | .k49 | .k4A | .k4B | .k4C | .k4D | .k4E | .k4F
  | .k50 | .k51 | .k52 | .k53 | .k54 | .k55 | .k56 | .k57
  | .k58 | .k59 | .k5A | .k5B | .k5C | .k5D | .k5E | .k5F
  | .k60 | .k61 | .k62 | .k63 | .k64 | .k65 | .k66 | .k67
  | .k68 | .k69 | .k6A | .k6B | .k6C | .k6D | .k6E | .k6F
  | .k70 | .k71 | .k72 | .k73 | .k74 | .k75 | .k76 | .k77
  | .k78 | .k79 | .k7A | .k7B | .k7C | .k7D | .k7E | .k7F => .key

/-- The word of a row: for format S the sample word of R53, for format PORT the port word of R54, for
format K the key, here in the binary form of the tables of 30_encoding.md R45 to R49. -/
def encode (i : Instr) : Word :=
  match i with
  | .arm d => wordOfBits true d
  | .hold d => wordOfBits false d
  | .shift d => wordOfBits false d
  | .emit => wordOfBits false false
  | .drop => wordOfBits false false
  | .ovf d => wordOfBits false d
  | .reset en => wordOfBits true en
  | .idle => wordOfBits false false
  | .k00 => 0b1010101011000
  | .k01 => 0b1011011011000
  | .k02 => 0b1011101101000
  | .k03 => 0b1101110111000
  | .k04 => 0b1011101011000
  | .k05 => 0b1101011111000
  | .k06 => 0b1011101111000
  | .k07 => 0b1011111101000
  | .k08 => 0b1011111111000
  | .k09 => 0b11101111000
  | .k0A => 0b11101000
  | .k0B => 0b1101101111000
  | .k0C => 0b1011011101000
  | .k0D => 0b11111000
  | .k0E => 0b1101110101000
  | .k0F => 0b1110101011000
  | .k10 => 0b1011110111000
  | .k11 => 0b1011110101000
  | .k12 => 0b1110101101000
  | .k13 => 0b1110101111000
  | .k14 => 0b1101011011000
  | .k15 => 0b1101101011000
  | .k16 => 0b1101101101000
  | .k17 => 0b1101010111000
  | .k18 => 0b1101111011000
  | .k19 => 0b1101111101000
  | .k1A => 0b1110110111000
  | .k1B => 0b1101010101000
  | .k1C => 0b1101011101000
  | .k1D => 0b1110111011000
  | .k1E => 0b1011111011000
  | .k1F => 0b1101111111000
  | .k20 => 0b1000
  | .k21 => 0b111111111000
  | .k22 => 0b101011111000
  | .k23 => 0b111110101000
  | .k24 => 0b111011011000
  | .k25 => 0b1011010101000
  | .k26 => 0b1010111011000
  | .k27 => 0b101111111000
  | .k28 => 0b11111011000
  | .k29 => 0b11110111000
  | .k2A => 0b101101111000
  | .k2B => 0b111011111000
  | .k2C => 0b1110101000
  | .k2D => 0b110101000
  | .k2E => 0b1010111000
  | .k2F => 0b110101111000
  | .k30 => 0b10110111000
  | .k31 => 0b10111101000
  | .k32 => 0b11101101000
  | .k33 => 0b11111111000
  | .k34 => 0b101110111000
  | .k35 => 0b101011011000
  | .k36 => 0b101101011000
  | .k37 => 0b110101101000
  | .k38 => 0b110101011000
  | .k39 => 0b110110111000
  | .k3A => 0b11110101000
  | .k3B => 0b110111101000
  | .k3C => 0b111101101000
  | .k3D => 0b1010101000
  | .k3E => 0b111010111000
  | .k3F => 0b1010101111000
  | .k40 => 0b1010111101000
  | .k41 => 0b1111101000
  | .k42 => 0b11101011000
  | .k43 => 0b10101101000
  | .k44 => 0b10110101000
  | .k45 => 0b1110111000
  | .k46 => 0b11011011000
  | .k47 => 0b11111101000
  | .k48 => 0b101010101000
  | .k49 => 0b1111111000
  | .k4A => 0b111111101000
  | .k4B => 0b101111101000
  | .k4C => 0b11010111000
  | .k4D => 0b10111011000
  | .k4E => 0b11011101000
  | .k4F => 0b10101011000
  | .k50 => 0b11010101000
  | .k51 => 0b111011101000
  | .k52 => 0b10101111000
  | .k53 => 0b1101111000
  | .k54 => 0b1101101000
  | .k55 => 0b101010111000
  | .k56 => 0b110110101000
  | .k57 => 0b101011101000
  | .k58 => 0b101110101000
  | .k59 => 0b101111011000
  | .k5A => 0b1010101101000
  | .k5B => 0b111110111000
  | .k5C => 0b111101111000
  | .k5D => 0b111111011000
  | .k5E => 0b1010111111000
  | .k5F => 0b101101101000
  | .k60 => 0b1011011111000
  | .k61 => 0b1011000
  | .k62 => 0b1011111000
  | .k63 => 0b101111000
  | .k64 => 0b101101000
  | .k65 => 0b11000
  | .k66 => 0b111101000
  | .k67 => 0b1011011000
  | .k68 => 0b101011000
  | .k69 => 0b1101000
  | .k6A => 0b111101011000
  | .k6B => 0b10111111000
  | .k6C => 0b11011000
  | .k6D => 0b111011000
  | .k6E => 0b1111000
  | .k6F => 0b111000
  | .k70 => 0b111111000
  | .k71 => 0b110111111000
  | .k72 => 0b10101000
  | .k73 => 0b10111000
  | .k74 => 0b101000
  | .k75 => 0b110111000
  | .k76 => 0b1111011000
  | .k77 => 0b1101011000
  | .k78 => 0b11011111000
  | .k79 => 0b1011101000
  | .k7A => 0b111010101000
  | .k7B => 0b1010110111000
  | .k7C => 0b110111011000
  | .k7D => 0b1010110101000
  | .k7E => 0b1011010111000
  | .k7F => 0b1110110101000

/-- What a row asks of the state columns of R53. Rows of format PORT and K ask nothing of them. -/
def rowConditions (i : Instr) (c : Conditions) : Bool :=
  match i with
  | .arm _ => true
  | .hold _ => !c.armed
  | .shift _ => c.armed && !c.ovf && !c.eoc
  | .emit => c.armed && !c.ovf && c.eoc && c.hit
  | .drop => c.armed && !c.ovf && c.eoc && !c.hit
  | .ovf _ => c.armed && c.ovf
  | .reset _ | .idle => true
  | .k00 | .k01 | .k02 | .k03 | .k04 | .k05 | .k06 | .k07
  | .k08 | .k09 | .k0A | .k0B | .k0C | .k0D | .k0E | .k0F
  | .k10 | .k11 | .k12 | .k13 | .k14 | .k15 | .k16 | .k17
  | .k18 | .k19 | .k1A | .k1B | .k1C | .k1D | .k1E | .k1F
  | .k20 | .k21 | .k22 | .k23 | .k24 | .k25 | .k26 | .k27
  | .k28 | .k29 | .k2A | .k2B | .k2C | .k2D | .k2E | .k2F
  | .k30 | .k31 | .k32 | .k33 | .k34 | .k35 | .k36 | .k37
  | .k38 | .k39 | .k3A | .k3B | .k3C | .k3D | .k3E | .k3F
  | .k40 | .k41 | .k42 | .k43 | .k44 | .k45 | .k46 | .k47
  | .k48 | .k49 | .k4A | .k4B | .k4C | .k4D | .k4E | .k4F
  | .k50 | .k51 | .k52 | .k53 | .k54 | .k55 | .k56 | .k57
  | .k58 | .k59 | .k5A | .k5B | .k5C | .k5D | .k5E | .k5F
  | .k60 | .k61 | .k62 | .k63 | .k64 | .k65 | .k66 | .k67
  | .k68 | .k69 | .k6A | .k6B | .k6C | .k6D | .k6E | .k6F
  | .k70 | .k71 | .k72 | .k73 | .k74 | .k75 | .k76 | .k77
  | .k78 | .k79 | .k7A | .k7B | .k7C | .k7D | .k7E | .k7F => true

/-- The outcome of the step a row is (43_varicode_decoder.md R91 to R96); a row of format K is an EMIT step (R94),
a row of format PORT consumes no sample (30_encoding.md R54). -/
def rowOutcome (i : Instr) : Option StepOutcome :=
  match i with
  | .arm _ => some .arm
  | .hold _ => some .hold
  | .shift _ => some .shift
  | .emit => some .emit
  | .drop => some .drop
  | .ovf _ => some .ovf
  | .reset _ | .idle => none
  | .k00 | .k01 | .k02 | .k03 | .k04 | .k05 | .k06 | .k07
  | .k08 | .k09 | .k0A | .k0B | .k0C | .k0D | .k0E | .k0F
  | .k10 | .k11 | .k12 | .k13 | .k14 | .k15 | .k16 | .k17
  | .k18 | .k19 | .k1A | .k1B | .k1C | .k1D | .k1E | .k1F
  | .k20 | .k21 | .k22 | .k23 | .k24 | .k25 | .k26 | .k27
  | .k28 | .k29 | .k2A | .k2B | .k2C | .k2D | .k2E | .k2F
  | .k30 | .k31 | .k32 | .k33 | .k34 | .k35 | .k36 | .k37
  | .k38 | .k39 | .k3A | .k3B | .k3C | .k3D | .k3E | .k3F
  | .k40 | .k41 | .k42 | .k43 | .k44 | .k45 | .k46 | .k47
  | .k48 | .k49 | .k4A | .k4B | .k4C | .k4D | .k4E | .k4F
  | .k50 | .k51 | .k52 | .k53 | .k54 | .k55 | .k56 | .k57
  | .k58 | .k59 | .k5A | .k5B | .k5C | .k5D | .k5E | .k5F
  | .k60 | .k61 | .k62 | .k63 | .k64 | .k65 | .k66 | .k67
  | .k68 | .k69 | .k6A | .k6B | .k6C | .k6D | .k6E | .k6F
  | .k70 | .k71 | .k72 | .k73 | .k74 | .k75 | .k76 | .k77
  | .k78 | .k79 | .k7A | .k7B | .k7C | .k7D | .k7E | .k7F => some .emit

/-- The state columns right after reset: `armed = 0` (10_state.md R19), the others then not read. -/
def resetConditions : Conditions := ⟨false, false, false, false⟩

/-- The row read from a word of spec/opcode_table.json by its bits alone. A sample word needs state columns
beside it: here those of the state after reset. Port words collide with sample words (both are two bits) and
are read as sample words; log 7. Every key is 8 or more, so a key never collides. -/
def decodeTableWord (nbits w : Nat) : Option Instr :=
  if nbits = 8 ∧ w < 4 then (decodeSample resetConditions (BitVec.ofNat 32 w)).toOption
  else if (nbits = 8 ∨ nbits = 16 ∨ nbits = 24 ∨ nbits = 32) ∧ w < 2 ^ nbits then
    (decodeKey (BitVec.ofNat 32 w)).toOption
  else none

end Sys2Proof
end

