-- ==== Sys2Proof/Machine/State.lean ====
section
/-! DEFINITION. The state of the block (10_state.md R10, R18) with the model's two own fields, the reasons a
step could stop, and the machine right after reset. -/

namespace Sys2Proof.Machine

/-- No constructor: the step function "has no fault, no stuck case and no refused case"
(43_varicode_decoder.md R90, 00_scope.md R9). LookupNotFound and AccumulatorOverflow are absorbed in the step
that meets them (60_exceptions.md R111, R112). -/
inductive Fault where
deriving DecidableEq, Repr

/-- Every row has its meaning, so nothing refuses (43_varicode_decoder.md R90). -/
inductive Refusal where
  /-- Raised by an arm of `exec` whose row has no meaning yet: none. Safe. -/
  | notModelled (mnemonic : String)
deriving DecidableEq, Repr

/-- The value of `acc`: `W` bits, unsigned (10_state.md R12). -/
abbrev Acc := BitVec Config.W

/-- The state: the two registers of 10_state.md R10, the output registers of R18, and two fields that are the
MODEL's own: the inputs still to come (log 3) and the index of the next free value (log 5). -/
structure State where
  /-- `armed`, 10_state.md R11. -/
  armed : Bool
  /-- `acc`, 10_state.md R12. -/
  acc : Acc
  /-- `sym_valid`, 10_state.md R18. -/
  symValid : Bool
  /-- `sym_len`, 10_state.md R18. -/
  symLen : BitVec 2
  /-- `sym_char0`, 10_state.md R18. -/
  symChar0 : Byte
  /-- `sym_char1`, 10_state.md R18. -/
  symChar1 : Byte
  /-- The model's own: what the host presents at the clock edges to come, the next first. Empty: the host
  presents nothing, `rst = 0` and `sample_en = 0` (60_exceptions.md R114, R115). -/
  edges : List Edge
  /-- The model's own: the index of the next free value of Config. -/
  drawn : Nat
deriving DecidableEq, Repr

/-- The machine right after reset: `armed`, `acc`, `sym_valid` as 10_state.md R19 and 70_reset_and_hazards.md
R130 give them. R19 leaves `sym_len`, `sym_char0`, `sym_char1` unspecified: DESIGN CHOICE 0 (log 6), unsafe.
No input is presented yet (log 4). -/
def State.reset : State where
  armed := false
  acc := 0
  symValid := false
  symLen := 0
  symChar0 := 0
  symChar1 := 0
  edges := []
  drawn := 0

end Sys2Proof.Machine
end

