-- ==== Sys2Proof/Machine/Operands.lean ====
section
/-! DEFINITION. The values a step computes from its operands: the shifted value (42_bit_accumulator.md R81),
the fields of a symbol (30_encoding.md R41), the sample of a clock edge (43_varicode_decoder.md R99). -/

namespace Sys2Proof.Machine

/-- The shifted value `v = acc[W-2:0] ‖ b` (42_bit_accumulator.md R81), at any width. -/
def shifted {w : Nat} (acc : BitVec w) (b : Bool) : BitVec w :=
  (acc <<< 1) ||| (BitVec.ofBool b).setWidth w

/-- `sym_len` of a symbol: its number of characters (30_encoding.md R41). -/
def symbolLen (y : Symbol) : BitVec 2 :=
  match y with
  | .one _ => 1
  | .two _ _ => 2

/-- The first character of a symbol (30_encoding.md R41). -/
def symbolChar0 (y : Symbol) : Byte :=
  match y with
  | .one c0 => c0
  | .two c0 _ => c0

/-- The second character of a symbol, where it has one (30_encoding.md R41). -/
def symbolChar1 (y : Symbol) : Option Byte :=
  match y with
  | .one _ => none
  | .two _ c1 => some c1

/-- The sample a clock edge carries: `s.clock = clock_in`, `s.data = data_in` (43_varicode_decoder.md R99). -/
def edgeSample (p : Edge) : Sample := ⟨p.clockIn, p.dataIn⟩

/-- The edge at which the host presents a sample (43_varicode_decoder.md R100). -/
def sampleEdge (smp : Sample) : Edge := ⟨false, true, smp.clock, smp.data⟩

/-- The edge at which the host presents nothing (43_varicode_decoder.md R101). -/
def idleEdge : Edge := ⟨false, false, false, false⟩

/-- The port word of an edge, `rst ‖ sample_en` (30_encoding.md R55). -/
def portWord (p : Edge) : Word := wordOfBits p.rst p.sampleEn

/-- The sample word of a sample, `clock ‖ data` (30_encoding.md R35). -/
def sampleWord (smp : Sample) : Word := wordOfBits smp.clock smp.data

end Sys2Proof.Machine
end

