-- ==== Sys2Proof/Machine/Flags.lean ====
section
/-! DEFINITION. The single-bit values of a step: `capture` and the next `armed` (41_edge_detector.md), `eoc` and
`ovf` (42_bit_accumulator.md). All are combinational (10_state.md R16). -/

namespace Sys2Proof.Machine

/-- The capture strobe (41_edge_detector.md R74), from `armed` before the step. -/
def capture (stepEn clock armed : Bool) : Bool := stepEn && !clock && armed

/-- The next `armed` of the edge detector: ARM sets it, FIRE clears it, HOLD and a cycle with no step leave it
(41_edge_detector.md R71, R72, R73). -/
def armedNext (stepEn clock armed : Bool) : Bool :=
  if stepEn && clock then true
  else if capture stepEn clock armed then false
  else armed

/-- The end-of-character condition on the shifted value (42_bit_accumulator.md R83). -/
def eoc {w : Nat} (v : BitVec w) : Bool :=
  v != 0 && v.extractLsb' 0 Config.eocZeros == 0

/-- The overflow condition `acc[W-1]`, read before the shift (42_bit_accumulator.md R84). -/
def ovf {w : Nat} (acc : BitVec w) : Bool := acc.msb

end Sys2Proof.Machine
end

