-- ==== Sys2Proof/Machine/Rom.lean ====
section
/-! DEFINITION. The lookup ROM: its one operation (40_lookup_rom.md R61) at any width and for any contents, and
the default contents (30_encoding.md R45 to R49), one definition per row of format K. Only the keys 24 and 232
are printed by the spec's source; the other 126 rows are the spec's, taken from the published varicode table:
PRESUMED (log 2), unsafe for a claim about one such character. Each key is given in decimal here and in binary
in Decode.lean. -/

namespace Sys2Proof.Machine

/-- `RomRead(k)` (40_lookup_rom.md R61): `some sym` is `Found(sym)`, `none` is `NotFound`. A key is compared as an
integer, over all bits of `k` (20_memory.md R24). -/
def romRead {w : Nat} (rom : Rom) (k : BitVec w) : Option Symbol :=
  (rom.find? fun e => e.key == k.toNat).map RomEntry.sym

/-- The output `hit` of `lookup_rom` (40_lookup_rom.md R60). -/
def hit {w : Nat} (rom : Rom) (k : BitVec w) : Bool := (romRead rom k).isSome

def rom00 : RomEntry := ⟨5464, .one 0x00⟩  -- K_00, code 1010101011, R48
def rom01 : RomEntry := ⟨5848, .one 0x01⟩  -- K_01, code 1011011011, R48
def rom02 : RomEntry := ⟨5992, .one 0x02⟩  -- K_02, code 1011101101, R48
def rom03 : RomEntry := ⟨7096, .one 0x03⟩  -- K_03, code 1101110111, R48
def rom04 : RomEntry := ⟨5976, .one 0x04⟩  -- K_04, code 1011101011, R48
def rom05 : RomEntry := ⟨6904, .one 0x05⟩  -- K_05, code 1101011111, R48
def rom06 : RomEntry := ⟨6008, .one 0x06⟩  -- K_06, code 1011101111, R48
def rom07 : RomEntry := ⟨6120, .one 0x07⟩  -- K_07, code 1011111101, R48
def rom08 : RomEntry := ⟨6136, .one 0x08⟩  -- K_08, code 1011111111, R48
def rom09 : RomEntry := ⟨1912, .one 0x09⟩  -- K_09, code 11101111, R48
def rom0A : RomEntry := ⟨232, crLf⟩  -- K_0A, code 11101, R46
def rom0B : RomEntry := ⟨7032, .one 0x0B⟩  -- K_0B, code 1101101111, R48
def rom0C : RomEntry := ⟨5864, .one 0x0C⟩  -- K_0C, code 1011011101, R48
def rom0D : RomEntry := ⟨248, crLf⟩  -- K_0D, code 11111, R47
def rom0E : RomEntry := ⟨7080, .one 0x0E⟩  -- K_0E, code 1101110101, R48
def rom0F : RomEntry := ⟨7512, .one 0x0F⟩  -- K_0F, code 1110101011, R48
def rom10 : RomEntry := ⟨6072, .one 0x10⟩  -- K_10, code 1011110111, R48
def rom11 : RomEntry := ⟨6056, .one 0x11⟩  -- K_11, code 1011110101, R48
def rom12 : RomEntry := ⟨7528, .one 0x12⟩  -- K_12, code 1110101101, R48
def rom13 : RomEntry := ⟨7544, .one 0x13⟩  -- K_13, code 1110101111, R48
def rom14 : RomEntry := ⟨6872, .one 0x14⟩  -- K_14, code 1101011011, R48
def rom15 : RomEntry := ⟨7000, .one 0x15⟩  -- K_15, code 1101101011, R48
def rom16 : RomEntry := ⟨7016, .one 0x16⟩  -- K_16, code 1101101101, R48
def rom17 : RomEntry := ⟨6840, .one 0x17⟩  -- K_17, code 1101010111, R48
def rom18 : RomEntry := ⟨7128, .one 0x18⟩  -- K_18, code 1101111011, R48
def rom19 : RomEntry := ⟨7144, .one 0x19⟩  -- K_19, code 1101111101, R48
def rom1A : RomEntry := ⟨7608, .one 0x1A⟩  -- K_1A, code 1110110111, R48
def rom1B : RomEntry := ⟨6824, .one 0x1B⟩  -- K_1B, code 1101010101, R48
def rom1C : RomEntry := ⟨6888, .one 0x1C⟩  -- K_1C, code 1101011101, R48
def rom1D : RomEntry := ⟨7640, .one 0x1D⟩  -- K_1D, code 1110111011, R48
def rom1E : RomEntry := ⟨6104, .one 0x1E⟩  -- K_1E, code 1011111011, R48
def rom1F : RomEntry := ⟨7160, .one 0x1F⟩  -- K_1F, code 1101111111, R48
def rom20 : RomEntry := ⟨8, .one 0x20⟩  -- K_20, code 1, R49
def rom21 : RomEntry := ⟨4088, .one 0x21⟩  -- K_21, code 111111111, R49
def rom22 : RomEntry := ⟨2808, .one 0x22⟩  -- K_22, code 101011111, R49
def rom23 : RomEntry := ⟨4008, .one 0x23⟩  -- K_23, code 111110101, R49
def rom24 : RomEntry := ⟨3800, .one 0x24⟩  -- K_24, code 111011011, R49
def rom25 : RomEntry := ⟨5800, .one 0x25⟩  -- K_25, code 1011010101, R49
def rom26 : RomEntry := ⟨5592, .one 0x26⟩  -- K_26, code 1010111011, R49
def rom27 : RomEntry := ⟨3064, .one 0x27⟩  -- K_27, code 101111111, R49
def rom28 : RomEntry := ⟨2008, .one 0x28⟩  -- K_28, code 11111011, R49
def rom29 : RomEntry := ⟨1976, .one 0x29⟩  -- K_29, code 11110111, R49
def rom2A : RomEntry := ⟨2936, .one 0x2A⟩  -- K_2A, code 101101111, R49
def rom2B : RomEntry := ⟨3832, .one 0x2B⟩  -- K_2B, code 111011111, R49
def rom2C : RomEntry := ⟨936, .one 0x2C⟩  -- K_2C, code 1110101, R49
def rom2D : RomEntry := ⟨424, .one 0x2D⟩  -- K_2D, code 110101, R49
def rom2E : RomEntry := ⟨696, .one 0x2E⟩  -- K_2E, code 1010111, R49
def rom2F : RomEntry := ⟨3448, .one 0x2F⟩  -- K_2F, code 110101111, R49
def rom30 : RomEntry := ⟨1464, .one 0x30⟩  -- K_30, code 10110111, R49
def rom31 : RomEntry := ⟨1512, .one 0x31⟩  -- K_31, code 10111101, R49
def rom32 : RomEntry := ⟨1896, .one 0x32⟩  -- K_32, code 11101101, R49
def rom33 : RomEntry := ⟨2040, .one 0x33⟩  -- K_33, code 11111111, R49
def rom34 : RomEntry := ⟨3000, .one 0x34⟩  -- K_34, code 101110111, R49
def rom35 : RomEntry := ⟨2776, .one 0x35⟩  -- K_35, code 101011011, R49
def rom36 : RomEntry := ⟨2904, .one 0x36⟩  -- K_36, code 101101011, R49
def rom37 : RomEntry := ⟨3432, .one 0x37⟩  -- K_37, code 110101101, R49
def rom38 : RomEntry := ⟨3416, .one 0x38⟩  -- K_38, code 110101011, R49
def rom39 : RomEntry := ⟨3512, .one 0x39⟩  -- K_39, code 110110111, R49
def rom3A : RomEntry := ⟨1960, .one 0x3A⟩  -- K_3A, code 11110101, R49
def rom3B : RomEntry := ⟨3560, .one 0x3B⟩  -- K_3B, code 110111101, R49
def rom3C : RomEntry := ⟨3944, .one 0x3C⟩  -- K_3C, code 111101101, R49
def rom3D : RomEntry := ⟨680, .one 0x3D⟩  -- K_3D, code 1010101, R49
def rom3E : RomEntry := ⟨3768, .one 0x3E⟩  -- K_3E, code 111010111, R49
def rom3F : RomEntry := ⟨5496, .one 0x3F⟩  -- K_3F, code 1010101111, R49
def rom40 : RomEntry := ⟨5608, .one 0x40⟩  -- K_40, code 1010111101, R49
def rom41 : RomEntry := ⟨1000, .one 0x41⟩  -- K_41, code 1111101, R49
def rom42 : RomEntry := ⟨1880, .one 0x42⟩  -- K_42, code 11101011, R49
def rom43 : RomEntry := ⟨1384, .one 0x43⟩  -- K_43, code 10101101, R49
def rom44 : RomEntry := ⟨1448, .one 0x44⟩  -- K_44, code 10110101, R49
def rom45 : RomEntry := ⟨952, .one 0x45⟩  -- K_45, code 1110111, R49
def rom46 : RomEntry := ⟨1752, .one 0x46⟩  -- K_46, code 11011011, R49
def rom47 : RomEntry := ⟨2024, .one 0x47⟩  -- K_47, code 11111101, R49
def rom48 : RomEntry := ⟨2728, .one 0x48⟩  -- K_48, code 101010101, R49
def rom49 : RomEntry := ⟨1016, .one 0x49⟩  -- K_49, code 1111111, R49
def rom4A : RomEntry := ⟨4072, .one 0x4A⟩  -- K_4A, code 111111101, R49
def rom4B : RomEntry := ⟨3048, .one 0x4B⟩  -- K_4B, code 101111101, R49
def rom4C : RomEntry := ⟨1720, .one 0x4C⟩  -- K_4C, code 11010111, R49
def rom4D : RomEntry := ⟨1496, .one 0x4D⟩  -- K_4D, code 10111011, R49
def rom4E : RomEntry := ⟨1768, .one 0x4E⟩  -- K_4E, code 11011101, R49
def rom4F : RomEntry := ⟨1368, .one 0x4F⟩  -- K_4F, code 10101011, R49
def rom50 : RomEntry := ⟨1704, .one 0x50⟩  -- K_50, code 11010101, R49
def rom51 : RomEntry := ⟨3816, .one 0x51⟩  -- K_51, code 111011101, R49
def rom52 : RomEntry := ⟨1400, .one 0x52⟩  -- K_52, code 10101111, R49
def rom53 : RomEntry := ⟨888, .one 0x53⟩  -- K_53, code 1101111, R49
def rom54 : RomEntry := ⟨872, .one 0x54⟩  -- K_54, code 1101101, R49
def rom55 : RomEntry := ⟨2744, .one 0x55⟩  -- K_55, code 101010111, R49
def rom56 : RomEntry := ⟨3496, .one 0x56⟩  -- K_56, code 110110101, R49
def rom57 : RomEntry := ⟨2792, .one 0x57⟩  -- K_57, code 101011101, R49
def rom58 : RomEntry := ⟨2984, .one 0x58⟩  -- K_58, code 101110101, R49
def rom59 : RomEntry := ⟨3032, .one 0x59⟩  -- K_59, code 101111011, R49
def rom5A : RomEntry := ⟨5480, .one 0x5A⟩  -- K_5A, code 1010101101, R49
def rom5B : RomEntry := ⟨4024, .one 0x5B⟩  -- K_5B, code 111110111, R49
def rom5C : RomEntry := ⟨3960, .one 0x5C⟩  -- K_5C, code 111101111, R49
def rom5D : RomEntry := ⟨4056, .one 0x5D⟩  -- K_5D, code 111111011, R49
def rom5E : RomEntry := ⟨5624, .one 0x5E⟩  -- K_5E, code 1010111111, R49
def rom5F : RomEntry := ⟨2920, .one 0x5F⟩  -- K_5F, code 101101101, R49
def rom60 : RomEntry := ⟨5880, .one 0x60⟩  -- K_60, code 1011011111, R49
def rom61 : RomEntry := ⟨88, .one 0x61⟩  -- K_61, code 1011, R49
def rom62 : RomEntry := ⟨760, .one 0x62⟩  -- K_62, code 1011111, R49
def rom63 : RomEntry := ⟨376, .one 0x63⟩  -- K_63, code 101111, R49
def rom64 : RomEntry := ⟨360, .one 0x64⟩  -- K_64, code 101101, R49
def rom65 : RomEntry := ⟨24, .one 0x65⟩  -- K_65, code 11, R45
def rom66 : RomEntry := ⟨488, .one 0x66⟩  -- K_66, code 111101, R49
def rom67 : RomEntry := ⟨728, .one 0x67⟩  -- K_67, code 1011011, R49
def rom68 : RomEntry := ⟨344, .one 0x68⟩  -- K_68, code 101011, R49
def rom69 : RomEntry := ⟨104, .one 0x69⟩  -- K_69, code 1101, R49
def rom6A : RomEntry := ⟨3928, .one 0x6A⟩  -- K_6A, code 111101011, R49
def rom6B : RomEntry := ⟨1528, .one 0x6B⟩  -- K_6B, code 10111111, R49
def rom6C : RomEntry := ⟨216, .one 0x6C⟩  -- K_6C, code 11011, R49
def rom6D : RomEntry := ⟨472, .one 0x6D⟩  -- K_6D, code 111011, R49
def rom6E : RomEntry := ⟨120, .one 0x6E⟩  -- K_6E, code 1111, R49
def rom6F : RomEntry := ⟨56, .one 0x6F⟩  -- K_6F, code 111, R49
def rom70 : RomEntry := ⟨504, .one 0x70⟩  -- K_70, code 111111, R49
def rom71 : RomEntry := ⟨3576, .one 0x71⟩  -- K_71, code 110111111, R49
def rom72 : RomEntry := ⟨168, .one 0x72⟩  -- K_72, code 10101, R49
def rom73 : RomEntry := ⟨184, .one 0x73⟩  -- K_73, code 10111, R49
def rom74 : RomEntry := ⟨40, .one 0x74⟩  -- K_74, code 101, R49
def rom75 : RomEntry := ⟨440, .one 0x75⟩  -- K_75, code 110111, R49
def rom76 : RomEntry := ⟨984, .one 0x76⟩  -- K_76, code 1111011, R49
def rom77 : RomEntry := ⟨856, .one 0x77⟩  -- K_77, code 1101011, R49
def rom78 : RomEntry := ⟨1784, .one 0x78⟩  -- K_78, code 11011111, R49
def rom79 : RomEntry := ⟨744, .one 0x79⟩  -- K_79, code 1011101, R49
def rom7A : RomEntry := ⟨3752, .one 0x7A⟩  -- K_7A, code 111010101, R49
def rom7B : RomEntry := ⟨5560, .one 0x7B⟩  -- K_7B, code 1010110111, R49
def rom7C : RomEntry := ⟨3544, .one 0x7C⟩  -- K_7C, code 110111011, R49
def rom7D : RomEntry := ⟨5544, .one 0x7D⟩  -- K_7D, code 1010110101, R49
def rom7E : RomEntry := ⟨5816, .one 0x7E⟩  -- K_7E, code 1011010111, R49
def rom7F : RomEntry := ⟨7592, .one 0x7F⟩  -- K_7F, code 1110110101, R48

def romPart0 : Rom :=
  [rom00, rom01, rom02, rom03, rom04, rom05, rom06, rom07,
   rom08, rom09, rom0A, rom0B, rom0C, rom0D, rom0E, rom0F]
def romPart1 : Rom :=
  [rom10, rom11, rom12, rom13, rom14, rom15, rom16, rom17,
   rom18, rom19, rom1A, rom1B, rom1C, rom1D, rom1E, rom1F]
def romPart2 : Rom :=
  [rom20, rom21, rom22, rom23, rom24, rom25, rom26, rom27,
   rom28, rom29, rom2A, rom2B, rom2C, rom2D, rom2E, rom2F]
def romPart3 : Rom :=
  [rom30, rom31, rom32, rom33, rom34, rom35, rom36, rom37,
   rom38, rom39, rom3A, rom3B, rom3C, rom3D, rom3E, rom3F]
def romPart4 : Rom :=
  [rom40, rom41, rom42, rom43, rom44, rom45, rom46, rom47,
   rom48, rom49, rom4A, rom4B, rom4C, rom4D, rom4E, rom4F]
def romPart5 : Rom :=
  [rom50, rom51, rom52, rom53, rom54, rom55, rom56, rom57,
   rom58, rom59, rom5A, rom5B, rom5C, rom5D, rom5E, rom5F]
def romPart6 : Rom :=
  [rom60, rom61, rom62, rom63, rom64, rom65, rom66, rom67,
   rom68, rom69, rom6A, rom6B, rom6C, rom6D, rom6E, rom6F]
def romPart7 : Rom :=
  [rom70, rom71, rom72, rom73, rom74, rom75, rom76, rom77,
   rom78, rom79, rom7A, rom7B, rom7C, rom7D, rom7E, rom7F]

/-- The default ROM (30_encoding.md R45 to R49), in the order of the character codes. -/
def defaultRom : Rom :=
  romPart0 ++ romPart1 ++ romPart2 ++ romPart3 ++ romPart4 ++ romPart5 ++ romPart6 ++ romPart7

/-- The ROM entry a row of format K names. -/
def romEntryOf (i : Instr) : Option RomEntry :=
  match i with
  | .arm _ | .hold _ | .shift _ | .emit | .drop | .ovf _ | .reset _ | .idle => none
  | .k00 => some rom00
  | .k01 => some rom01
  | .k02 => some rom02
  | .k03 => some rom03
  | .k04 => some rom04
  | .k05 => some rom05
  | .k06 => some rom06
  | .k07 => some rom07
  | .k08 => some rom08
  | .k09 => some rom09
  | .k0A => some rom0A
  | .k0B => some rom0B
  | .k0C => some rom0C
  | .k0D => some rom0D
  | .k0E => some rom0E
  | .k0F => some rom0F
  | .k10 => some rom10
  | .k11 => some rom11
  | .k12 => some rom12
  | .k13 => some rom13
  | .k14 => some rom14
  | .k15 => some rom15
  | .k16 => some rom16
  | .k17 => some rom17
  | .k18 => some rom18
  | .k19 => some rom19
  | .k1A => some rom1A
  | .k1B => some rom1B
  | .k1C => some rom1C
  | .k1D => some rom1D
  | .k1E => some rom1E
  | .k1F => some rom1F
  | .k20 => some rom20
  | .k21 => some rom21
  | .k22 => some rom22
  | .k23 => some rom23
  | .k24 => some rom24
  | .k25 => some rom25
  | .k26 => some rom26
  | .k27 => some rom27
  | .k28 => some rom28
  | .k29 => some rom29
  | .k2A => some rom2A
  | .k2B => some rom2B
  | .k2C => some rom2C
  | .k2D => some rom2D
  | .k2E => some rom2E
  | .k2F => some rom2F
  | .k30 => some rom30
  | .k31 => some rom31
  | .k32 => some rom32
  | .k33 => some rom33
  | .k34 => some rom34
  | .k35 => some rom35
  | .k36 => some rom36
  | .k37 => some rom37
  | .k38 => some rom38
  | .k39 => some rom39
  | .k3A => some rom3A
  | .k3B => some rom3B
  | .k3C => some rom3C
  | .k3D => some rom3D
  | .k3E => some rom3E
  | .k3F => some rom3F
  | .k40 => some rom40
  | .k41 => some rom41
  | .k42 => some rom42
  | .k43 => some rom43
  | .k44 => some rom44
  | .k45 => some rom45
  | .k46 => some rom46
  | .k47 => some rom47
  | .k48 => some rom48
  | .k49 => some rom49
  | .k4A => some rom4A
  | .k4B => some rom4B
  | .k4C => some rom4C
  | .k4D => some rom4D
  | .k4E => some rom4E
  | .k4F => some rom4F
  | .k50 => some rom50
  | .k51 => some rom51
  | .k52 => some rom52
  | .k53 => some rom53
  | .k54 => some rom54
  | .k55 => some rom55
  | .k56 => some rom56
  | .k57 => some rom57
  | .k58 => some rom58
  | .k59 => some rom59
  | .k5A => some rom5A
  | .k5B => some rom5B
  | .k5C => some rom5C
  | .k5D => some rom5D
  | .k5E => some rom5E
  | .k5F => some rom5F
  | .k60 => some rom60
  | .k61 => some rom61
  | .k62 => some rom62
  | .k63 => some rom63
  | .k64 => some rom64
  | .k65 => some rom65
  | .k66 => some rom66
  | .k67 => some rom67
  | .k68 => some rom68
  | .k69 => some rom69
  | .k6A => some rom6A
  | .k6B => some rom6B
  | .k6C => some rom6C
  | .k6D => some rom6D
  | .k6E => some rom6E
  | .k6F => some rom6F
  | .k70 => some rom70
  | .k71 => some rom71
  | .k72 => some rom72
  | .k73 => some rom73
  | .k74 => some rom74
  | .k75 => some rom75
  | .k76 => some rom76
  | .k77 => some rom77
  | .k78 => some rom78
  | .k79 => some rom79
  | .k7A => some rom7A
  | .k7B => some rom7B
  | .k7C => some rom7C
  | .k7D => some rom7D
  | .k7E => some rom7E
  | .k7F => some rom7F

end Sys2Proof.Machine
end

