-- ==== Sys2Proof/Machine/Ops.lean ====
section
/-! DEFINITION. The shared operations: the step function (43_varicode_decoder.md R90) at any width and for any
ROM, the write of the registers at a clock edge (R100), what meeting a condition does (60_exceptions.md R118),
and the processing of a sample in State. -/

namespace Sys2Proof.Machine

/-- The two registers of 10_state.md R10, at any width. -/
structure Regs (w : Nat) where
  armed : Bool
  acc : BitVec w
deriving DecidableEq, Repr

/-- What a step answers (00_scope.md R8): the next registers, an optional symbol, the outcome. -/
structure StepResult (w : Nat) where
  regs : Regs w
  emitted : Option Symbol
  outcome : StepOutcome
deriving DecidableEq, Repr

/-- The start state `{armed = 0, acc = 0}` (70_reset_and_hazards.md R130). -/
def Regs.start (w : Nat) : Regs w := ⟨false, 0⟩

/-- The step function, line by line 43_varicode_decoder.md R90, at any width and for any ROM. -/
def Regs.step {w : Nat} (rom : Rom) (r : Regs w) (smp : Sample) : StepResult w :=
  if smp.clock then ⟨⟨true, r.acc⟩, none, .arm⟩
  else if !r.armed then ⟨⟨false, r.acc⟩, none, .hold⟩
  else if ovf r.acc then ⟨⟨false, 0⟩, none, .ovf⟩
  else
    let v := shifted r.acc smp.data
    if eoc v then
      match romRead rom v with
      | some sym => ⟨⟨false, 0⟩, some sym, .emit⟩
      | none => ⟨⟨false, 0⟩, none, .drop⟩
    else ⟨⟨false, v⟩, none, .shift⟩

/-- The condition a step with this outcome meets (60_exceptions.md R110, R111, R112). It is recorded nowhere. -/
def outcomeCondition (o : StepOutcome) : Option Condition :=
  match o with
  | .drop => some .lookupNotFound
  | .ovf => some .accumulatorOverflow
  | .arm | .hold | .shift | .emit => none

/-- The number of an outcome, "for models that want tags" (60_exceptions.md R110). -/
def outcomeTag (o : StepOutcome) : Nat :=
  match o with
  | .arm => 0
  | .hold => 1
  | .shift => 2
  | .emit => 3
  | .drop => 4
  | .ovf => 5

/-- `sym_len` after an edge that emits `e`: the symbol's length, else free (43_varicode_decoder.md R100). -/
def outLen (e : Option Symbol) (n : Nat) : BitVec 2 :=
  match e with
  | some y => symbolLen y
  | none => Config.unspecifiedSymLen n

/-- `sym_char0` after an edge that emits `e`: the first character, else free (43_varicode_decoder.md R100). -/
def outChar0 (e : Option Symbol) (n : Nat) : Byte :=
  match e with
  | some y => symbolChar0 y
  | none => Config.unspecifiedSymChar0 n

/-- `sym_char1` after an edge that emits `e`: the second character where there is one, else free
(43_varicode_decoder.md R100). -/
def outChar1 (e : Option Symbol) (n : Nat) : Byte :=
  (e.bind symbolChar1).getD (Config.unspecifiedSymChar1 n)

/-- The writes of one clock edge (43_varicode_decoder.md R100): the two registers, and the output registers
for an emission or for none. -/
def State.commit (s : State) (armed : Bool) (acc : Acc) (e : Option Symbol) : State :=
  { s with
    armed := armed
    acc := acc
    symValid := e.isSome
    symLen := outLen e s.drawn
    symChar0 := outChar0 e s.drawn
    symChar1 := outChar1 e s.drawn
    drawn := s.drawn + 1 }

/-- Meeting a condition, whichever it is (60_exceptions.md R118): nothing is saved, no mode changes, control
goes nowhere; `armed <- 0`, `acc <- 0`, nothing is emitted. There is no return (R119): the next sample is
processed by the ordinary rules. -/
def State.absorb (s : State) (_condition : Condition) : State := s.commit false 0 none

/-- The two registers of a state. -/
def State.regs (s : State) : Regs Config.W := ⟨s.armed, s.acc⟩

/-- A sample processed at a clock edge: `step` of R90 and then the writes of R100
(43_varicode_decoder.md R100, the branch `sample_en = 1`). -/
def State.sampled (s : State) (smp : Sample) : State :=
  let r := s.regs.step defaultRom smp
  s.commit r.regs.armed r.regs.acc r.emitted

/-- A whole clock edge, line by line 43_varicode_decoder.md R100. -/
def State.clocked (s : State) (p : Edge) : State :=
  if p.rst then s.commit false 0 none
  else if p.sampleEn then s.sampled (edgeSample p)
  else s.commit s.armed s.acc none

/-- The symbol the sink takes (43_varicode_decoder.md R100): it reads the fields only while `sym_valid = 1`. -/
def State.offered (s : State) : Option Symbol :=
  if s.symValid then
    if s.symLen = 2 then some (.two s.symChar0 s.symChar1) else some (.one s.symChar0)
  else none

/-- What the host presents at the next edge; nothing where it has stopped (60_exceptions.md R114, R115). -/
def State.edge (s : State) : Edge := s.edges.headD idleEdge

/-- The host presents `p` at the next edge, before whatever else it was to present (60_exceptions.md R121). -/
def State.present (s : State) (p : Edge) : State := { s with edges := p :: s.edges }

/-- The next edge's inputs are consumed, whatever the edge does with them (43_varicode_decoder.md R100). -/
def State.consumeEdge (s : State) : State := { s with edges := s.edges.tail }

end Sys2Proof.Machine
end

