-- ==== Sys2Proof/Machine/BitAccumulator.lean ====
section
/-! DEFINITION. The bit accumulator's next `acc` (42_bit_accumulator.md R82, R85, R86, R87), and the rows in which it
acts without the lookup: SHIFT and OVF. Outside its row's conditions a sample is processed as R90 says (log 8). -/

namespace Sys2Proof.Machine

/-- The next `acc` of the part: KEEP (42_bit_accumulator.md R87), CLEAR on overflow (R86), CLEAR on end of
character (R85), SHIFT (R82). -/
def accNext {w : Nat} (capt data : Bool) (acc : BitVec w) : BitVec w :=
  if !capt then acc
  else if ovf acc then 0
  else if eoc (shifted acc data) then 0
  else shifted acc data

/-- SHIFT (43_varicode_decoder.md R93, 42_bit_accumulator.md R82): `armed <- 0`, `acc <- v`. -/
def execShift (data : Bool) (s : State) : Host.Outcome State Fault Refusal :=
  let v := shifted s.acc data
  if capture true false s.armed && !ovf s.acc && !eoc v then .next (s.commit false v none)
  else .next (s.sampled ⟨false, data⟩)

/-- OVF (43_varicode_decoder.md R96, 42_bit_accumulator.md R86): AccumulatorOverflow, absorbed. The arriving
bit is discarded. -/
def execOvf (data : Bool) (s : State) : Host.Outcome State Fault Refusal :=
  if capture true false s.armed && ovf s.acc then .next (s.absorb .accumulatorOverflow)
  else .next (s.sampled ⟨false, data⟩)

end Sys2Proof.Machine
end

