-- ==== Sys2Proof/Machine/EdgeDetector.lean ====
section
/-! DEFINITION. The rows the edge detector decides alone: ARM and HOLD (41_edge_detector.md R71, R72). FIRE (R73) is
its share of SHIFT, EMIT, DROP and OVF. A row of format S has its own effect where its sample and the state
select it (30_encoding.md R53); where the state selects another row for that sample, the sample is processed
as R90 says (log 8): `State.sampled`. -/

namespace Sys2Proof.Machine

/-- ARM (43_varicode_decoder.md R91, 41_edge_detector.md R71): `armed <- 1`. The data bit is not read. -/
def execArm (_data : Bool) (s : State) : Host.Outcome State Fault Refusal :=
  .next (s.commit true s.acc none)

/-- HOLD (43_varicode_decoder.md R92, 41_edge_detector.md R72): nothing changes. The data bit is not read. -/
def execHold (data : Bool) (s : State) : Host.Outcome State Fault Refusal :=
  if !s.armed then .next (s.commit s.armed s.acc none)
  else .next (s.sampled ⟨false, data⟩)

end Sys2Proof.Machine
end

