-- ==== Sys2Proof/Machine/LookupRom.lean ====
section
/-! DEFINITION. The rows of format K as instructions. A row is LOOKUP hitting its entry (40_lookup_rom.md R61); the
step in which that happens is the EMIT step "symbol selected by the `K` row whose `match` equals `v`"
(43_varicode_decoder.md R94). Its sample is `low(data=0)`; where that sample does not select the row, it is
processed as R90 says (log 8). -/

namespace Sys2Proof.Machine

/-- The one operation behind the rows: when the capture of a 0 completes the entry's key, deliver the entry's
symbol and clear (43_varicode_decoder.md R94, 40_lookup_rom.md R61). -/
def execRomRow (e : RomEntry) (s : State) : Host.Outcome State Fault Refusal :=
  let v := shifted s.acc false
  if capture true false s.armed && !ovf s.acc && eoc v && v.toNat == e.key then
    .next (s.commit false 0 (some e.sym))
  else .next (s.sampled ⟨false, false⟩)

/-- `K_00`, key 0b1010101011000 (30_encoding.md R48). -/
def execK00 (s : State) : Host.Outcome State Fault Refusal := execRomRow rom00 s

/-- `K_01`, key 0b1011011011000 (30_encoding.md R48). -/
def execK01 (s : State) : Host.Outcome State Fault Refusal := execRomRow rom01 s

/-- `K_02`, key 0b1011101101000 (30_encoding.md R48). -/
def execK02 (s : State) : Host.Outcome State Fault Refusal := execRomRow rom02 s

/-- `K_03`, key 0b1101110111000 (30_encoding.md R48). -/
def execK03 (s : State) : Host.Outcome State Fault Refusal := execRomRow rom03 s

/-- `K_04`, key 0b1011101011000 (30_encoding.md R48). -/
def execK04 (s : State) : Host.Outcome State Fault Refusal := execRomRow rom04 s

/-- `K_05`, key 0b1101011111000 (30_encoding.md R48). -/
def execK05 (s : State) : Host.Outcome State Fault Refusal := execRomRow rom05 s

/-- `K_06`, key 0b1011101111000 (30_encoding.md R48). -/
def execK06 (s : State) : Host.Outcome State Fault Refusal := execRomRow rom06 s

/-- `K_07`, key 0b1011111101000 (30_encoding.md R48). -/
def execK07 (s : State) : Host.Outcome State Fault Refusal := execRomRow rom07 s

/-- `K_08`, key 0b1011111111000 (30_encoding.md R48). -/
def execK08 (s : State) : Host.Outcome State Fault Refusal := execRomRow rom08 s

/-- `K_09`, key 0b11101111000 (30_encoding.md R48). -/
def execK09 (s : State) : Host.Outcome State Fault Refusal := execRomRow rom09 s

/-- `K_0A`, key 0b11101000 (30_encoding.md R46). -/
def execK0A (s : State) : Host.Outcome State Fault Refusal := execRomRow rom0A s

/-- `K_0B`, key 0b1101101111000 (30_encoding.md R48). -/
def execK0B (s : State) : Host.Outcome State Fault Refusal := execRomRow rom0B s

/-- `K_0C`, key 0b1011011101000 (30_encoding.md R48). -/
def execK0C (s : State) : Host.Outcome State Fault Refusal := execRomRow rom0C s

/-- `K_0D`, key 0b11111000 (30_encoding.md R47). -/
def execK0D (s : State) : Host.Outcome State Fault Refusal := execRomRow rom0D s

/-- `K_0E`, key 0b1101110101000 (30_encoding.md R48). -/
def execK0E (s : State) : Host.Outcome State Fault Refusal := execRomRow rom0E s

/-- `K_0F`, key 0b1110101011000 (30_encoding.md R48). -/
def execK0F (s : State) : Host.Outcome State Fault Refusal := execRomRow rom0F s

/-- `K_10`, key 0b1011110111000 (30_encoding.md R48). -/
def execK10 (s : State) : Host.Outcome State Fault Refusal := execRomRow rom10 s

/-- `K_11`, key 0b1011110101000 (30_encoding.md R48). -/
def execK11 (s : State) : Host.Outcome State Fault Refusal := execRomRow rom11 s

/-- `K_12`, key 0b1110101101000 (30_encoding.md R48). -/
def execK12 (s : State) : Host.Outcome State Fault Refusal := execRomRow rom12 s

/-- `K_13`, key 0b1110101111000 (30_encoding.md R48). -/
def execK13 (s : State) : Host.Outcome State Fault Refusal := execRomRow rom13 s

/-- `K_14`, key 0b1101011011000 (30_encoding.md R48). -/
def execK14 (s : State) : Host.Outcome State Fault Refusal := execRomRow rom14 s

/-- `K_15`, key 0b1101101011000 (30_encoding.md R48). -/
def execK15 (s : State) : Host.Outcome State Fault Refusal := execRomRow rom15 s

/-- `K_16`, key 0b1101101101000 (30_encoding.md R48). -/
def execK16 (s : State) : Host.Outcome State Fault Refusal := execRomRow rom16 s

/-- `K_17`, key 0b1101010111000 (30_encoding.md R48). -/
def execK17 (s : State) : Host.Outcome State Fault Refusal := execRomRow rom17 s

/-- `K_18`, key 0b1101111011000 (30_encoding.md R48). -/
def execK18 (s : State) : Host.Outcome State Fault Refusal := execRomRow rom18 s

/-- `K_19`, key 0b1101111101000 (30_encoding.md R48). -/
def execK19 (s : State) : Host.Outcome State Fault Refusal := execRomRow rom19 s

/-- `K_1A`, key 0b1110110111000 (30_encoding.md R48). -/
def execK1A (s : State) : Host.Outcome State Fault Refusal := execRomRow rom1A s

/-- `K_1B`, key 0b1101010101000 (30_encoding.md R48). -/
def execK1B (s : State) : Host.Outcome State Fault Refusal := execRomRow rom1B s

/-- `K_1C`, key 0b1101011101000 (30_encoding.md R48). -/
def execK1C (s : State) : Host.Outcome State Fault Refusal := execRomRow rom1C s

/-- `K_1D`, key 0b1110111011000 (30_encoding.md R48). -/
def execK1D (s : State) : Host.Outcome State Fault Refusal := execRomRow rom1D s

/-- `K_1E`, key 0b1011111011000 (30_encoding.md R48). -/
def execK1E (s : State) : Host.Outcome State Fault Refusal := execRomRow rom1E s

/-- `K_1F`, key 0b1101111111000 (30_encoding.md R48). -/
def execK1F (s : State) : Host.Outcome State Fault Refusal := execRomRow rom1F s

/-- `K_20`, key 0b1000 (30_encoding.md R49). -/
def execK20 (s : State) : Host.Outcome State Fault Refusal := execRomRow rom20 s

/-- `K_21`, key 0b111111111000 (30_encoding.md R49). -/
def execK21 (s : State) : Host.Outcome State Fault Refusal := execRomRow rom21 s

/-- `K_22`, key 0b101011111000 (30_encoding.md R49). -/
def execK22 (s : State) : Host.Outcome State Fault Refusal := execRomRow rom22 s

/-- `K_23`, key 0b111110101000 (30_encoding.md R49). -/
def execK23 (s : State) : Host.Outcome State Fault Refusal := execRomRow rom23 s

/-- `K_24`, key 0b111011011000 (30_encoding.md R49). -/
def execK24 (s : State) : Host.Outcome State Fault Refusal := execRomRow rom24 s

/-- `K_25`, key 0b1011010101000 (30_encoding.md R49). -/
def execK25 (s : State) : Host.Outcome State Fault Refusal := execRomRow rom25 s

/-- `K_26`, key 0b1010111011000 (30_encoding.md R49). -/
def execK26 (s : State) : Host.Outcome State Fault Refusal := execRomRow rom26 s

/-- `K_27`, key 0b101111111000 (30_encoding.md R49). -/
def execK27 (s : State) : Host.Outcome State Fault Refusal := execRomRow rom27 s

/-- `K_28`, key 0b11111011000 (30_encoding.md R49). -/
def execK28 (s : State) : Host.Outcome State Fault Refusal := execRomRow rom28 s

/-- `K_29`, key 0b11110111000 (30_encoding.md R49). -/
def execK29 (s : State) : Host.Outcome State Fault Refusal := execRomRow rom29 s

/-- `K_2A`, key 0b101101111000 (30_encoding.md R49). -/
def execK2A (s : State) : Host.Outcome State Fault Refusal := execRomRow rom2A s

/-- `K_2B`, key 0b111011111000 (30_encoding.md R49). -/
def execK2B (s : State) : Host.Outcome State Fault Refusal := execRomRow rom2B s

/-- `K_2C`, key 0b1110101000 (30_encoding.md R49). -/
def execK2C (s : State) : Host.Outcome State Fault Refusal := execRomRow rom2C s

/-- `K_2D`, key 0b110101000 (30_encoding.md R49). -/
def execK2D (s : State) : Host.Outcome State Fault Refusal := execRomRow rom2D s

/-- `K_2E`, key 0b1010111000 (30_encoding.md R49). -/
def execK2E (s : State) : Host.Outcome State Fault Refusal := execRomRow rom2E s

/-- `K_2F`, key 0b110101111000 (30_encoding.md R49). -/
def execK2F (s : State) : Host.Outcome State Fault Refusal := execRomRow rom2F s

/-- `K_30`, key 0b10110111000 (30_encoding.md R49). -/
def execK30 (s : State) : Host.Outcome State Fault Refusal := execRomRow rom30 s

/-- `K_31`, key 0b10111101000 (30_encoding.md R49). -/
def execK31 (s : State) : Host.Outcome State Fault Refusal := execRomRow rom31 s

/-- `K_32`, key 0b11101101000 (30_encoding.md R49). -/
def execK32 (s : State) : Host.Outcome State Fault Refusal := execRomRow rom32 s

/-- `K_33`, key 0b11111111000 (30_encoding.md R49). -/
def execK33 (s : State) : Host.Outcome State Fault Refusal := execRomRow rom33 s

/-- `K_34`, key 0b101110111000 (30_encoding.md R49). -/
def execK34 (s : State) : Host.Outcome State Fault Refusal := execRomRow rom34 s

/-- `K_35`, key 0b101011011000 (30_encoding.md R49). -/
def execK35 (s : State) : Host.Outcome State Fault Refusal := execRomRow rom35 s

/-- `K_36`, key 0b101101011000 (30_encoding.md R49). -/
def execK36 (s : State) : Host.Outcome State Fault Refusal := execRomRow rom36 s

/-- `K_37`, key 0b110101101000 (30_encoding.md R49). -/
def execK37 (s : State) : Host.Outcome State Fault Refusal := execRomRow rom37 s

/-- `K_38`, key 0b110101011000 (30_encoding.md R49). -/
def execK38 (s : State) : Host.Outcome State Fault Refusal := execRomRow rom38 s

/-- `K_39`, key 0b110110111000 (30_encoding.md R49). -/
def execK39 (s : State) : Host.Outcome State Fault Refusal := execRomRow rom39 s

/-- `K_3A`, key 0b11110101000 (30_encoding.md R49). -/
def execK3A (s : State) : Host.Outcome State Fault Refusal := execRomRow rom3A s

/-- `K_3B`, key 0b110111101000 (30_encoding.md R49). -/
def execK3B (s : State) : Host.Outcome State Fault Refusal := execRomRow rom3B s

/-- `K_3C`, key 0b111101101000 (30_encoding.md R49). -/
def execK3C (s : State) : Host.Outcome State Fault Refusal := execRomRow rom3C s

/-- `K_3D`, key 0b1010101000 (30_encoding.md R49). -/
def execK3D (s : State) : Host.Outcome State Fault Refusal := execRomRow rom3D s

/-- `K_3E`, key 0b111010111000 (30_encoding.md R49). -/
def execK3E (s : State) : Host.Outcome State Fault Refusal := execRomRow rom3E s

/-- `K_3F`, key 0b1010101111000 (30_encoding.md R49). -/
def execK3F (s : State) : Host.Outcome State Fault Refusal := execRomRow rom3F s

/-- `K_40`, key 0b1010111101000 (30_encoding.md R49). -/
def execK40 (s : State) : Host.Outcome State Fault Refusal := execRomRow rom40 s

/-- `K_41`, key 0b1111101000 (30_encoding.md R49). -/
def execK41 (s : State) : Host.Outcome State Fault Refusal := execRomRow rom41 s

/-- `K_42`, key 0b11101011000 (30_encoding.md R49). -/
def execK42 (s : State) : Host.Outcome State Fault Refusal := execRomRow rom42 s

/-- `K_43`, key 0b10101101000 (30_encoding.md R49). -/
def execK43 (s : State) : Host.Outcome State Fault Refusal := execRomRow rom43 s

/-- `K_44`, key 0b10110101000 (30_encoding.md R49). -/
def execK44 (s : State) : Host.Outcome State Fault Refusal := execRomRow rom44 s

/-- `K_45`, key 0b1110111000 (30_encoding.md R49). -/
def execK45 (s : State) : Host.Outcome State Fault Refusal := execRomRow rom45 s

/-- `K_46`, key 0b11011011000 (30_encoding.md R49). -/
def execK46 (s : State) : Host.Outcome State Fault Refusal := execRomRow rom46 s

/-- `K_47`, key 0b11111101000 (30_encoding.md R49). -/
def execK47 (s : State) : Host.Outcome State Fault Refusal := execRomRow rom47 s

/-- `K_48`, key 0b101010101000 (30_encoding.md R49). -/
def execK48 (s : State) : Host.Outcome State Fault Refusal := execRomRow rom48 s

/-- `K_49`, key 0b1111111000 (30_encoding.md R49). -/
def execK49 (s : State) : Host.Outcome State Fault Refusal := execRomRow rom49 s

/-- `K_4A`, key 0b111111101000 (30_encoding.md R49). -/
def execK4A (s : State) : Host.Outcome State Fault Refusal := execRomRow rom4A s

/-- `K_4B`, key 0b101111101000 (30_encoding.md R49). -/
def execK4B (s : State) : Host.Outcome State Fault Refusal := execRomRow rom4B s

/-- `K_4C`, key 0b11010111000 (30_encoding.md R49). -/
def execK4C (s : State) : Host.Outcome State Fault Refusal := execRomRow rom4C s

/-- `K_4D`, key 0b10111011000 (30_encoding.md R49). -/
def execK4D (s : State) : Host.Outcome State Fault Refusal := execRomRow rom4D s

/-- `K_4E`, key 0b11011101000 (30_encoding.md R49). -/
def execK4E (s : State) : Host.Outcome State Fault Refusal := execRomRow rom4E s

/-- `K_4F`, key 0b10101011000 (30_encoding.md R49). -/
def execK4F (s : State) : Host.Outcome State Fault Refusal := execRomRow rom4F s

/-- `K_50`, key 0b11010101000 (30_encoding.md R49). -/
def execK50 (s : State) : Host.Outcome State Fault Refusal := execRomRow rom50 s

/-- `K_51`, key 0b111011101000 (30_encoding.md R49). -/
def execK51 (s : State) : Host.Outcome State Fault Refusal := execRomRow rom51 s

/-- `K_52`, key 0b10101111000 (30_encoding.md R49). -/
def execK52 (s : State) : Host.Outcome State Fault Refusal := execRomRow rom52 s

/-- `K_53`, key 0b1101111000 (30_encoding.md R49). -/
def execK53 (s : State) : Host.Outcome State Fault Refusal := execRomRow rom53 s

/-- `K_54`, key 0b1101101000 (30_encoding.md R49). -/
def execK54 (s : State) : Host.Outcome State Fault Refusal := execRomRow rom54 s

/-- `K_55`, key 0b101010111000 (30_encoding.md R49). -/
def execK55 (s : State) : Host.Outcome State Fault Refusal := execRomRow rom55 s

/-- `K_56`, key 0b110110101000 (30_encoding.md R49). -/
def execK56 (s : State) : Host.Outcome State Fault Refusal := execRomRow rom56 s

/-- `K_57`, key 0b101011101000 (30_encoding.md R49). -/
def execK57 (s : State) : Host.Outcome State Fault Refusal := execRomRow rom57 s

/-- `K_58`, key 0b101110101000 (30_encoding.md R49). -/
def execK58 (s : State) : Host.Outcome State Fault Refusal := execRomRow rom58 s

/-- `K_59`, key 0b101111011000 (30_encoding.md R49). -/
def execK59 (s : State) : Host.Outcome State Fault Refusal := execRomRow rom59 s

/-- `K_5A`, key 0b1010101101000 (30_encoding.md R49). -/
def execK5A (s : State) : Host.Outcome State Fault Refusal := execRomRow rom5A s

/-- `K_5B`, key 0b111110111000 (30_encoding.md R49). -/
def execK5B (s : State) : Host.Outcome State Fault Refusal := execRomRow rom5B s

/-- `K_5C`, key 0b111101111000 (30_encoding.md R49). -/
def execK5C (s : State) : Host.Outcome State Fault Refusal := execRomRow rom5C s

/-- `K_5D`, key 0b111111011000 (30_encoding.md R49). -/
def execK5D (s : State) : Host.Outcome State Fault Refusal := execRomRow rom5D s

/-- `K_5E`, key 0b1010111111000 (30_encoding.md R49). -/
def execK5E (s : State) : Host.Outcome State Fault Refusal := execRomRow rom5E s

/-- `K_5F`, key 0b101101101000 (30_encoding.md R49). -/
def execK5F (s : State) : Host.Outcome State Fault Refusal := execRomRow rom5F s

/-- `K_60`, key 0b1011011111000 (30_encoding.md R49). -/
def execK60 (s : State) : Host.Outcome State Fault Refusal := execRomRow rom60 s

/-- `K_61`, key 0b1011000 (30_encoding.md R49). -/
def execK61 (s : State) : Host.Outcome State Fault Refusal := execRomRow rom61 s

/-- `K_62`, key 0b1011111000 (30_encoding.md R49). -/
def execK62 (s : State) : Host.Outcome State Fault Refusal := execRomRow rom62 s

/-- `K_63`, key 0b101111000 (30_encoding.md R49). -/
def execK63 (s : State) : Host.Outcome State Fault Refusal := execRomRow rom63 s

/-- `K_64`, key 0b101101000 (30_encoding.md R49). -/
def execK64 (s : State) : Host.Outcome State Fault Refusal := execRomRow rom64 s

/-- `K_65`, key 0b11000 (30_encoding.md R45). -/
def execK65 (s : State) : Host.Outcome State Fault Refusal := execRomRow rom65 s

/-- `K_66`, key 0b111101000 (30_encoding.md R49). -/
def execK66 (s : State) : Host.Outcome State Fault Refusal := execRomRow rom66 s

/-- `K_67`, key 0b1011011000 (30_encoding.md R49). -/
def execK67 (s : State) : Host.Outcome State Fault Refusal := execRomRow rom67 s

/-- `K_68`, key 0b101011000 (30_encoding.md R49). -/
def execK68 (s : State) : Host.Outcome State Fault Refusal := execRomRow rom68 s

/-- `K_69`, key 0b1101000 (30_encoding.md R49). -/
def execK69 (s : State) : Host.Outcome State Fault Refusal := execRomRow rom69 s

/-- `K_6A`, key 0b111101011000 (30_encoding.md R49). -/
def execK6A (s : State) : Host.Outcome State Fault Refusal := execRomRow rom6A s

/-- `K_6B`, key 0b10111111000 (30_encoding.md R49). -/
def execK6B (s : State) : Host.Outcome State Fault Refusal := execRomRow rom6B s

/-- `K_6C`, key 0b11011000 (30_encoding.md R49). -/
def execK6C (s : State) : Host.Outcome State Fault Refusal := execRomRow rom6C s

/-- `K_6D`, key 0b111011000 (30_encoding.md R49). -/
def execK6D (s : State) : Host.Outcome State Fault Refusal := execRomRow rom6D s

/-- `K_6E`, key 0b1111000 (30_encoding.md R49). -/
def execK6E (s : State) : Host.Outcome State Fault Refusal := execRomRow rom6E s

/-- `K_6F`, key 0b111000 (30_encoding.md R49). -/
def execK6F (s : State) : Host.Outcome State Fault Refusal := execRomRow rom6F s

/-- `K_70`, key 0b111111000 (30_encoding.md R49). -/
def execK70 (s : State) : Host.Outcome State Fault Refusal := execRomRow rom70 s

/-- `K_71`, key 0b110111111000 (30_encoding.md R49). -/
def execK71 (s : State) : Host.Outcome State Fault Refusal := execRomRow rom71 s

/-- `K_72`, key 0b10101000 (30_encoding.md R49). -/
def execK72 (s : State) : Host.Outcome State Fault Refusal := execRomRow rom72 s

/-- `K_73`, key 0b10111000 (30_encoding.md R49). -/
def execK73 (s : State) : Host.Outcome State Fault Refusal := execRomRow rom73 s

/-- `K_74`, key 0b101000 (30_encoding.md R49). -/
def execK74 (s : State) : Host.Outcome State Fault Refusal := execRomRow rom74 s

/-- `K_75`, key 0b110111000 (30_encoding.md R49). -/
def execK75 (s : State) : Host.Outcome State Fault Refusal := execRomRow rom75 s

/-- `K_76`, key 0b1111011000 (30_encoding.md R49). -/
def execK76 (s : State) : Host.Outcome State Fault Refusal := execRomRow rom76 s

/-- `K_77`, key 0b1101011000 (30_encoding.md R49). -/
def execK77 (s : State) : Host.Outcome State Fault Refusal := execRomRow rom77 s

/-- `K_78`, key 0b11011111000 (30_encoding.md R49). -/
def execK78 (s : State) : Host.Outcome State Fault Refusal := execRomRow rom78 s

/-- `K_79`, key 0b1011101000 (30_encoding.md R49). -/
def execK79 (s : State) : Host.Outcome State Fault Refusal := execRomRow rom79 s

/-- `K_7A`, key 0b111010101000 (30_encoding.md R49). -/
def execK7A (s : State) : Host.Outcome State Fault Refusal := execRomRow rom7A s

/-- `K_7B`, key 0b1010110111000 (30_encoding.md R49). -/
def execK7B (s : State) : Host.Outcome State Fault Refusal := execRomRow rom7B s

/-- `K_7C`, key 0b110111011000 (30_encoding.md R49). -/
def execK7C (s : State) : Host.Outcome State Fault Refusal := execRomRow rom7C s

/-- `K_7D`, key 0b1010110101000 (30_encoding.md R49). -/
def execK7D (s : State) : Host.Outcome State Fault Refusal := execRomRow rom7D s

/-- `K_7E`, key 0b1011010111000 (30_encoding.md R49). -/
def execK7E (s : State) : Host.Outcome State Fault Refusal := execRomRow rom7E s

/-- `K_7F`, key 0b1110110101000 (30_encoding.md R48). -/
def execK7F (s : State) : Host.Outcome State Fault Refusal := execRomRow rom7F s

end Sys2Proof.Machine
end

