-- ==== Sys2Proof/Machine/VaricodeDecoder.lean ====
section
/-! DEFINITION. The top level: the parts wired together (43_varicode_decoder.md R98), the rows that end a character,
EMIT and DROP (R94, R95), and the rows of the ports, RESET (70_reset_and_hazards.md R130) and IDLE (R101).
Outside its row's conditions a sample is processed as R90 says (log 8). -/

namespace Sys2Proof.Machine

/-- The parts composed as R98 wires them: the next registers and the symbol, at any width and for any ROM.
`stepEn` is `sample_en` and not `rst` (41_edge_detector.md R70). -/
def wired {w : Nat} (rom : Rom) (stepEn : Bool) (smp : Sample) (r : Regs w) : Regs w × Option Symbol :=
  let capt := capture stepEn smp.clock r.armed
  let v := shifted r.acc smp.data
  (⟨armedNext stepEn smp.clock r.armed, accNext capt smp.data r.acc⟩,
    if capt && !ovf r.acc && eoc v then romRead rom v else none)

/-- EMIT (43_varicode_decoder.md R94): `armed <- 0`, `acc <- 0`, `emit(sym)` with `RomRead(v) = Found(sym)`. -/
def execEmit (s : State) : Host.Outcome State Fault Refusal :=
  let v := shifted s.acc false
  if capture true false s.armed && !ovf s.acc && eoc v && hit defaultRom v then
    .next (s.commit false 0 (romRead defaultRom v))
  else .next (s.sampled ⟨false, false⟩)

/-- DROP (43_varicode_decoder.md R95): LookupNotFound, absorbed. -/
def execDrop (s : State) : Host.Outcome State Fault Refusal :=
  let v := shifted s.acc false
  if capture true false s.armed && !ovf s.acc && eoc v && !hit defaultRom v then
    .next (s.absorb .lookupNotFound)
  else .next (s.sampled ⟨false, false⟩)

/-- RESET (70_reset_and_hazards.md R130): `armed <- 0`, `acc <- 0`, `sym_valid <- 0`, whatever the other inputs
are; a sample presented in the same cycle is lost. -/
def execReset (_sampleEn : Bool) (s : State) : Host.Outcome State Fault Refusal :=
  .next (s.commit false 0 none)

/-- IDLE (43_varicode_decoder.md R101): no step, `armed` and `acc` keep their values, `sym_valid <- 0`. -/
def execIdle (s : State) : Host.Outcome State Fault Refusal :=
  .next (s.commit s.armed s.acc none)

end Sys2Proof.Machine
end

