-- ==== Sys2Proof/Machine/Dispatch.lean ====
section
/-! DEFINITION. One arm per row of spec/opcode_table.json. -/

namespace Sys2Proof.Machine

def exec (i : Instr) (s : State) : Host.Outcome State Fault Refusal :=
  match i with
  | .arm data => Sys2Proof.Machine.execArm data s
  | .hold data => Sys2Proof.Machine.execHold data s
  | .shift data => Sys2Proof.Machine.execShift data s
  | .emit => Sys2Proof.Machine.execEmit s
  | .drop => Sys2Proof.Machine.execDrop s
  | .ovf data => Sys2Proof.Machine.execOvf data s
  | .reset sampleEn => Sys2Proof.Machine.execReset sampleEn s
  | .idle => Sys2Proof.Machine.execIdle s
  | .k00 => Sys2Proof.Machine.execK00 s
  | .k01 => Sys2Proof.Machine.execK01 s
  | .k02 => Sys2Proof.Machine.execK02 s
  | .k03 => Sys2Proof.Machine.execK03 s
  | .k04 => Sys2Proof.Machine.execK04 s
  | .k05 => Sys2Proof.Machine.execK05 s
  | .k06 => Sys2Proof.Machine.execK06 s
  | .k07 => Sys2Proof.Machine.execK07 s
  | .k08 => Sys2Proof.Machine.execK08 s
  | .k09 => Sys2Proof.Machine.execK09 s
  | .k0A => Sys2Proof.Machine.execK0A s
  | .k0B => Sys2Proof.Machine.execK0B s
  | .k0C => Sys2Proof.Machine.execK0C s
  | .k0D => Sys2Proof.Machine.execK0D s
  | .k0E => Sys2Proof.Machine.execK0E s
  | .k0F => Sys2Proof.Machine.execK0F s
  | .k10 => Sys2Proof.Machine.execK10 s
  | .k11 => Sys2Proof.Machine.execK11 s
  | .k12 => Sys2Proof.Machine.execK12 s
  | .k13 => Sys2Proof.Machine.execK13 s
  | .k14 => Sys2Proof.Machine.execK14 s
  | .k15 => Sys2Proof.Machine.execK15 s
  | .k16 => Sys2Proof.Machine.execK16 s
  | .k17 => Sys2Proof.Machine.execK17 s
  | .k18 => Sys2Proof.Machine.execK18 s
  | .k19 => Sys2Proof.Machine.execK19 s
  | .k1A => Sys2Proof.Machine.execK1A s
  | .k1B => Sys2Proof.Machine.execK1B s
  | .k1C => Sys2Proof.Machine.execK1C s
  | .k1D => Sys2Proof.Machine.execK1D s
  | .k1E => Sys2Proof.Machine.execK1E s
  | .k1F => Sys2Proof.Machine.execK1F s
  | .k20 => Sys2Proof.Machine.execK20 s
  | .k21 => Sys2Proof.Machine.execK21 s
  | .k22 => Sys2Proof.Machine.execK22 s
  | .k23 => Sys2Proof.Machine.execK23 s
  | .k24 => Sys2Proof.Machine.execK24 s
  | .k25 => Sys2Proof.Machine.execK25 s
  | .k26 => Sys2Proof.Machine.execK26 s
  | .k27 => Sys2Proof.Machine.execK27 s
  | .k28 => Sys2Proof.Machine.execK28 s
  | .k29 => Sys2Proof.Machine.execK29 s
  | .k2A => Sys2Proof.Machine.execK2A s
  | .k2B => Sys2Proof.Machine.execK2B s
  | .k2C => Sys2Proof.Machine.execK2C s
  | .k2D => Sys2Proof.Machine.execK2D s
  | .k2E => Sys2Proof.Machine.execK2E s
  | .k2F => Sys2Proof.Machine.execK2F s
  | .k30 => Sys2Proof.Machine.execK30 s
  | .k31 => Sys2Proof.Machine.execK31 s
  | .k32 => Sys2Proof.Machine.execK32 s
  | .k33 => Sys2Proof.Machine.execK33 s
  | .k34 => Sys2Proof.Machine.execK34 s
  | .k35 => Sys2Proof.Machine.execK35 s
  | .k36 => Sys2Proof.Machine.execK36 s
  | .k37 => Sys2Proof.Machine.execK37 s
  | .k38 => Sys2Proof.Machine.execK38 s
  | .k39 => Sys2Proof.Machine.execK39 s
  | .k3A => Sys2Proof.Machine.execK3A s
  | .k3B => Sys2Proof.Machine.execK3B s
  | .k3C => Sys2Proof.Machine.execK3C s
  | .k3D => Sys2Proof.Machine.execK3D s
  | .k3E => Sys2Proof.Machine.execK3E s
  | .k3F => Sys2Proof.Machine.execK3F s
  | .k40 => Sys2Proof.Machine.execK40 s
  | .k41 => Sys2Proof.Machine.execK41 s
  | .k42 => Sys2Proof.Machine.execK42 s
  | .k43 => Sys2Proof.Machine.execK43 s
  | .k44 => Sys2Proof.Machine.execK44 s
  | .k45 => Sys2Proof.Machine.execK45 s
  | .k46 => Sys2Proof.Machine.execK46 s
  | .k47 => Sys2Proof.Machine.execK47 s
  | .k48 => Sys2Proof.Machine.execK48 s
  | .k49 => Sys2Proof.Machine.execK49 s
  | .k4A => Sys2Proof.Machine.execK4A s
  | .k4B => Sys2Proof.Machine.execK4B s
  | .k4C => Sys2Proof.Machine.execK4C s
  | .k4D => Sys2Proof.Machine.execK4D s
  | .k4E => Sys2Proof.Machine.execK4E s
  | .k4F => Sys2Proof.Machine.execK4F s
  | .k50 => Sys2Proof.Machine.execK50 s
  | .k51 => Sys2Proof.Machine.execK51 s
  | .k52 => Sys2Proof.Machine.execK52 s
  | .k53 => Sys2Proof.Machine.execK53 s
  | .k54 => Sys2Proof.Machine.execK54 s
  | .k55 => Sys2Proof.Machine.execK55 s
  | .k56 => Sys2Proof.Machine.execK56 s
  | .k57 => Sys2Proof.Machine.execK57 s
  | .k58 => Sys2Proof.Machine.execK58 s
  | .k59 => Sys2Proof.Machine.execK59 s
  | .k5A => Sys2Proof.Machine.execK5A s
  | .k5B => Sys2Proof.Machine.execK5B s
  | .k5C => Sys2Proof.Machine.execK5C s
  | .k5D => Sys2Proof.Machine.execK5D s
  | .k5E => Sys2Proof.Machine.execK5E s
  | .k5F => Sys2Proof.Machine.execK5F s
  | .k60 => Sys2Proof.Machine.execK60 s
  | .k61 => Sys2Proof.Machine.execK61 s
  | .k62 => Sys2Proof.Machine.execK62 s
  | .k63 => Sys2Proof.Machine.execK63 s
  | .k64 => Sys2Proof.Machine.execK64 s
  | .k65 => Sys2Proof.Machine.execK65 s
  | .k66 => Sys2Proof.Machine.execK66 s
  | .k67 => Sys2Proof.Machine.execK67 s
  | .k68 => Sys2Proof.Machine.execK68 s
  | .k69 => Sys2Proof.Machine.execK69 s
  | .k6A => Sys2Proof.Machine.execK6A s
  | .k6B => Sys2Proof.Machine.execK6B s
  | .k6C => Sys2Proof.Machine.execK6C s
  | .k6D => Sys2Proof.Machine.execK6D s
  | .k6E => Sys2Proof.Machine.execK6E s
  | .k6F => Sys2Proof.Machine.execK6F s
  | .k70 => Sys2Proof.Machine.execK70 s
  | .k71 => Sys2Proof.Machine.execK71 s
  | .k72 => Sys2Proof.Machine.execK72 s
  | .k73 => Sys2Proof.Machine.execK73 s
  | .k74 => Sys2Proof.Machine.execK74 s
  | .k75 => Sys2Proof.Machine.execK75 s
  | .k76 => Sys2Proof.Machine.execK76 s
  | .k77 => Sys2Proof.Machine.execK77 s
  | .k78 => Sys2Proof.Machine.execK78 s
  | .k79 => Sys2Proof.Machine.execK79 s
  | .k7A => Sys2Proof.Machine.execK7A s
  | .k7B => Sys2Proof.Machine.execK7B s
  | .k7C => Sys2Proof.Machine.execK7C s
  | .k7D => Sys2Proof.Machine.execK7D s
  | .k7E => Sys2Proof.Machine.execK7E s
  | .k7F => Sys2Proof.Machine.execK7F s

end Sys2Proof.Machine
end

