-- ==== Sys2Proof/Machine/Fetch.lean ====
section
/-! DEFINITION. Which row the next clock edge performs: the operation map (30_encoding.md R53, R54) applied to the
inputs presented and the state, in the order of tests of 60_exceptions.md R117; and the placing of a row's
word where the next edge finds it. -/

namespace Sys2Proof.Machine

/-- The state columns of the operation map (30_encoding.md R53) for a sample in a state. -/
def sampleConditions (s : State) (smp : Sample) : Conditions :=
  let v := shifted s.acc smp.data
  ⟨s.armed, ovf s.acc, eoc v, hit defaultRom v⟩

/-- A key as a row's word (30_encoding.md R55). -/
def keyWord (v : Acc) : Word := v.setWidth 32

/-- The row of format K behind a hit; EMIT itself where no row of the table has the key (log 8). -/
def romRow (v : Acc) : Instr :=
  match decodeKey (keyWord v) with
  | .ok i => i
  | .error _ => .emit

/-- The row a sample performs: the map's row, and where that is EMIT the row of format K whose key is `v`. -/
def sampleRow (s : State) (smp : Sample) : Instr :=
  let c := sampleConditions s smp
  let i := selectSample smp c
  if rowConditions .emit c && !smp.clock && !smp.data then romRow (shifted s.acc smp.data) else i

/-- The row the next clock edge performs: RESET, then IDLE, then a sample's row (60_exceptions.md R117). -/
def State.fetched (s : State) : Instr :=
  if s.edge.rst then .reset s.edge.sampleEn
  else if !s.edge.sampleEn then .idle
  else sampleRow s (edgeSample s.edge)

/-- The state in which the next edge performs the row that `decodeTableWord nbits w` reads (log 4, log 7). A
sample word: the host presents that sample, and a clock-low one finds `armed = 0`, as after reset. A key: the
key's last bit is presented to an accumulator that has taken in the bits before it, with `armed = 1`. -/
def State.placeWord (s : State) (nbits w : Nat) : State :=
  if nbits = 8 ∧ w < 4 then
    let smp := sampleOfWord (BitVec.ofNat 32 w)
    { s with armed := smp.clock && s.armed, edges := sampleEdge smp :: s.edges }
  else
    { s with
      armed := true
      acc := BitVec.ofNat Config.W (w / 2)
      edges := sampleEdge ⟨false, w % 2 == 1⟩ :: s.edges }

end Sys2Proof.Machine
end

