-- ==== Sys2Proof/Machine/Step.lean ====
section
/-! DEFINITION. One step of the model is one rising edge of `clk` (43_varicode_decoder.md R100). -/

namespace Sys2Proof.Machine

/-- Perform the row the inputs and the state select, and consume the inputs (43_varicode_decoder.md R100). -/
def step (s : State) : Host.Outcome State Fault Refusal := exec s.fetched s.consumeEdge

/-- `s` with the row's word placed where the next edge finds it (log 4, log 7). -/
def State.withFetchWord (s : State) (nbits w : Nat) : State := s.placeWord nbits w

end Sys2Proof.Machine
end

