-- ==== Sys2Proof/Machine/Stimulus.lean ====
section
/-! DEFINITION. The stimulus notation (30_encoding.md R51, R52) and runs of the step function over samples
(00_scope.md R8), finite and infinite, at any width and for any ROM. -/

namespace Sys2Proof.Machine

/-- `bit(b)`: one clock-high sample, then one clock-low sample carrying `b` (30_encoding.md R52). -/
def bitSamples (b : Bool) : List Sample := [⟨true, false⟩, ⟨false, b⟩]

/-- `bits("b1 b2 ... bn")` (30_encoding.md R52). -/
def bitsSamples (bs : List Bool) : List Sample := bs.flatMap bitSamples

/-- The binary form of `k` without leading zeros, most significant bit first (30_encoding.md R52). -/
def keyBits (k : Nat) : List Bool := (List.range (Nat.log2 k + 1)).reverse.map k.testBit

/-- `key(k)` (30_encoding.md R52). -/
def keySamples (k : Nat) : List Sample := bitsSamples (keyBits k)

/-- `idle(n)` (30_encoding.md R52). -/
def idleSamples (n : Nat) : List Sample := bitsSamples (List.replicate n false)

/-- The number a list of bits stands for, the first bit the most significant (20_memory.md R22). -/
def bitsValue (bs : List Bool) : Nat := bs.foldl (fun v b => 2 * v + b.toNat) 0

/-! ### Finite runs -/

/-- The registers at the end of a run (00_scope.md R8). -/
def Regs.after {w : Nat} (rom : Rom) (r : Regs w) : List Sample → Regs w
  | [] => r
  | x :: xs => ((r.step rom x).regs).after rom xs

/-- The observation of a run: the symbols emitted, in order (00_scope.md R8, 60_exceptions.md R126). -/
def Regs.emissions {w : Nat} (rom : Rom) (r : Regs w) : List Sample → List Symbol
  | [] => []
  | x :: xs => (r.step rom x).emitted.toList ++ ((r.step rom x).regs).emissions rom xs

/-- The outcomes of a run, in order (43_varicode_decoder.md R90). -/
def Regs.outcomes {w : Nat} (rom : Rom) (r : Regs w) : List Sample → List StepOutcome
  | [] => []
  | x :: xs => (r.step rom x).outcome :: ((r.step rom x).regs).outcomes rom xs

/-! ### Infinite runs: sample `n` of the sequence is `xs n` -/

/-- The registers before sample `n`: the fold of the step function over the samples before it (00_scope.md R8). -/
def Regs.stateAt {w : Nat} (rom : Rom) (r : Regs w) (xs : Nat → Sample) : Nat → Regs w
  | 0 => r
  | n + 1 => ((r.stateAt rom xs n).step rom (xs n)).regs

/-- What the step that consumes sample `n` answers (00_scope.md R8). -/
def Regs.resultAt {w : Nat} (rom : Rom) (r : Regs w) (xs : Nat → Sample) (n : Nat) : StepResult w :=
  (r.stateAt rom xs n).step rom (xs n)

/-- The symbols emitted before sample `n`, in order (00_scope.md R8). -/
def Regs.symbolsTo {w : Nat} (rom : Rom) (r : Regs w) (xs : Nat → Sample) : Nat → List Symbol
  | 0 => []
  | n + 1 => r.symbolsTo rom xs n ++ (r.resultAt rom xs n).emitted.toList

/-- The observation of an infinite run (00_scope.md R8, 60_exceptions.md R126), a finite or an infinite sequence of
symbols: symbol `k` of it, counted from 0, is `y`. -/
def Regs.ObservesAt {w : Nat} (rom : Rom) (r : Regs w) (xs : Nat → Sample) (k : Nat) (y : Symbol) : Prop :=
  ∃ n, (r.symbolsTo rom xs n)[k]? = some y

end Sys2Proof.Machine
end

