-- ==== Sys2Proof/Safety.lean ====
section
/-! DEFINITION. The terms claims use: the invariants of the state (10_state.md R13, 43_varicode_decoder.md R100), what
a clock edge has written, and the observation of a run (60_exceptions.md R126). The block never stops
(43_varicode_decoder.md R90), so a run is safe when every step answers a next state that meets `State.Inv`. -/

namespace Sys2Proof.Machine

/-- "`acc = 0` or `acc[2:0] != 0`" (10_state.md R13). -/
abbrev AccInv {w : Nat} (acc : BitVec w) : Prop := acc = 0 ∨ acc.extractLsb' 0 3 ≠ 0

/-- The binary form without leading zeros contains no three consecutive zero bits (10_state.md R13): wherever
the value is cut, what stands above the cut is 0 or has a 1 among its three lowest bits. -/
abbrev NoTripleZero {w : Nat} (acc : BitVec w) : Prop := ∀ i, i < w → AccInv (acc >>> i)

/-- The invariant of the state. The accumulator meets 10_state.md R13; and while `sym_valid = 1` the registers are
those an EMIT step leaves (43_varicode_decoder.md R104) and the output fields are a symbol of the ROM
(40_lookup_rom.md R61, 43_varicode_decoder.md R100). -/
abbrev State.Inv (s : State) : Prop :=
  NoTripleZero s.acc ∧
    (s.symValid = true → s.armed = false ∧ s.acc = 0 ∧
      ∃ e ∈ defaultRom, s.offered = some e.sym ∧ s.symLen = symbolLen e.sym)

/-- `t` is what a clock edge in `s` leaves when it writes `armed` and `acc` and emits `e` (or nothing): the two
registers, `sym_valid`, and where a symbol is emitted its fields (43_varicode_decoder.md R100). Nothing is said of
the fields the spec leaves unspecified (93_implementation_defined.md U4). The inputs still to come are untouched. -/
def State.Committed (s t : State) (armed : Bool) (acc : Acc) (e : Option Symbol) : Prop :=
  t.armed = armed ∧ t.acc = acc ∧ t.symValid = e.isSome ∧ t.edges = s.edges ∧
    ∀ y, e = some y → t.symLen = symbolLen y ∧ t.symChar0 = symbolChar0 y ∧
      ∀ c, symbolChar1 y = some c → t.symChar1 = c

/-- The symbols the sink takes in the first `n` clock cycles, in order (60_exceptions.md R126). -/
def State.observe : Nat → State → List Symbol
  | 0, _ => []
  | n + 1, s =>
    match step s with
    | .next t => t.offered.toList ++ t.observe n
    | .fault _ => []
    | .refused _ => []

/-! ### Infinite runs of the machine: the host presents `ps n` at edge `n`, each when its edge comes -/

/-- What `n` clock edges leave, edge `k` presented with `ps k` (43_varicode_decoder.md R100, 60_exceptions.md R121). -/
def State.afterEdges (s : State) (ps : Nat → Edge) : Nat → Host.Outcome State Fault Refusal
  | 0 => .next s
  | n + 1 =>
    match s.afterEdges ps n with
    | .next t => step (t.present (ps n))
    | .fault r => .fault r
    | .refused r => .refused r

/-- The symbols the sink takes in the cycles after the first `n` of those edges, in order (60_exceptions.md R126). -/
def State.symbolsTo (s : State) (ps : Nat → Edge) : Nat → List Symbol
  | 0 => []
  | n + 1 =>
    s.symbolsTo ps n ++
      match s.afterEdges ps (n + 1) with
      | .next t => t.offered.toList
      | .fault _ => []
      | .refused _ => []

/-- The observation of an infinite run of the machine (00_scope.md R8): symbol `k` the sink takes, counted from 0,
is `y`. -/
def State.ObservesAt (s : State) (ps : Nat → Edge) (k : Nat) (y : Symbol) : Prop :=
  ∃ n, (s.symbolsTo ps n)[k]? = some y

end Sys2Proof.Machine
end

