-- ==== Sys2Proof/Certificates/Slice0/Obligations.lean ====
section
/-! DEFINITION. The statements for the provers, each from the rules of spec/ its docstring names. A statement about
`Regs` holds at every legal width and, unless it names the default ROM, for every ROM it allows. -/

open Sys2Proof Sys2Proof.Machine

/-! ### Encoding -/

/-- Words written out from 30_encoding.md R35, R45, R46, R47, R53, R54 decode to their rows. The key of K_0D is the
spec's default (R47, 92_eei_decisions.md D5). -/
def Obligations.WrittenOutWordsDecode : Prop :=
  decodeTableWord 8 0b10 = some (.arm false) ∧ decodeTableWord 8 0b11 = some (.arm true) ∧
  decodeTableWord 8 0b00 = some (.hold false) ∧ decodeTableWord 8 0b01 = some (.hold true) ∧
  decodeSample ⟨true, false, false, false⟩ 0b01 = .ok (.shift true) ∧
  decodeSample ⟨true, false, true, true⟩ 0b00 = .ok .emit ∧
  decodeSample ⟨true, false, true, false⟩ 0b00 = .ok .drop ∧
  decodeSample ⟨true, true, false, false⟩ 0b01 = .ok (.ovf true) ∧
  decodePort 0b10 = .ok (.reset false) ∧ decodePort 0b00 = .ok .idle ∧
  decodeTableWord 32 0b11000 = some .k65 ∧ decodeTableWord 32 0b11101000 = some .k0A ∧
  decodeTableWord 32 0b11111000 = some .k0D

/-- Decode and encode agree, over every format, every word and every value of the state columns: a word decodes to a
row exactly when it is that row's word and the columns are those the row asks for (30_encoding.md R53, R54, R55). So
decode of encode is the identity on every row, and no two rows of a format share a word and columns. -/
def Obligations.DecodeIsTheInverseOfEncode : Prop :=
  ∀ (f : Format) (c : Conditions) (w : Word) (i : Instr),
    decode f c w = .ok i ↔ f = formatOf i ∧ w = encode i ∧ rowConditions i c = true

/-- 30_encoding.md R53: the rows of the operation map are disjoint and exhaustive over every state and sample. -/
def Obligations.ExactlyOneRowOfTheMapApplies : Prop :=
  ∀ (s : State) (smp : Sample), ∃! i : Instr,
    formatOf i = .sample ∧ encode i = sampleWord smp ∧ rowConditions i (sampleConditions s smp) = true

/-- The row the map selects (30_encoding.md R53) is the outcome of the step function (43_varicode_decoder.md R90). -/
def Obligations.TheMapSelectsTheOutcomeOfTheStep : Prop :=
  ∀ (s : State) (smp : Sample),
    rowOutcome (selectSample smp (sampleConditions s smp)) = some (s.regs.step defaultRom smp).outcome ∧
    rowOutcome (sampleRow s smp) = some (s.regs.step defaultRom smp).outcome

/-! ### The step -/

/-- A step runs the decoded row: the row of format PORT its port word decodes to; and where a sample is consumed
(`rst = 0`, `sample_en = 1`), the row of format S its sample word decodes to under the state's columns (30_encoding.md R53
to R55). Around `exec` the step only consumes the edge's inputs. The last clause is the MODEL's CHOICE (log 8) and not
R53 to R55's: a row of format K, as an instruction, is an EMIT step, and where the row of format S is EMIT the step is also
`exec` of the row of format K that the shifted value decodes to. -/
def Obligations.StepRunsTheDecodedRow : Prop :=
  ∀ (s : State) (c : Conditions) (i : Instr),
    (decode .port c (portWord s.edge) = .ok i → step s = exec i s.consumeEdge) ∧
    (s.edge.rst = false → s.edge.sampleEn = true →
      (decode .sample (sampleConditions s (edgeSample s.edge)) (sampleWord (edgeSample s.edge)) = .ok i →
        step s = exec i s.consumeEdge) ∧
      (decode .sample (sampleConditions s (edgeSample s.edge)) (sampleWord (edgeSample s.edge)) = .ok .emit →
        decode .key c (keyWord (shifted s.acc false)) = .ok i → step s = exec i s.consumeEdge))

/-- A table word that is placed is the next row to run, from every state, and the inputs to come stay (log 4, log 7: the
model's choice). -/
def Obligations.PlacedTableWordRunsNext : Prop :=
  ∀ (s : State) (nbits w : Nat) (i : Instr), decodeTableWord nbits w = some i →
    (s.withFetchWord nbits w).fetched = i ∧
    step (s.withFetchWord nbits w) = exec i (s.withFetchWord nbits w).consumeEdge ∧
    (s.withFetchWord nbits w).consumeEdge.edges = s.edges

/-- 43_varicode_decoder.md R100: every clock edge, in every state, is the port update; it never faults or refuses. -/
def Obligations.EveryEdgeIsThePortUpdate : Prop :=
  ∀ s : State, step s = .next (s.consumeEdge.clocked s.edge)

/-- Every row, in every state, completes: it answers a next state and leaves the inputs to come alone
(43_varicode_decoder.md R90: "It has no fault, no stuck case and no refused case"). -/
def Obligations.EveryRowCompletesInEveryState : Prop :=
  ∀ (i : Instr) (s : State), ∃ t, exec i s = .next t ∧ t.edges = s.edges

/-- A row of format S or K processes its sample as the step function does in every state, its own conditions met or not
(43_varicode_decoder.md R98: "where a reader finds a difference, rule R90 governs"; log 8, the model's choice). -/
def Obligations.RowsProcessTheirSampleAsTheStepFunction : Prop :=
  ∀ (i : Instr) (s : State),
    (formatOf i = .sample → exec i s = .next (s.sampled (sampleOfWord (encode i)))) ∧
    (formatOf i = .key → exec i s = .next (s.sampled ⟨false, false⟩))

/-- 43_varicode_decoder.md R98: the parts, wired, are the step function; with no step they change nothing. -/
def Obligations.PartsComposeToTheStep : Prop :=
  ∀ (w : Nat) (rom : Rom) (smp : Sample) (r : Regs w),
    wired rom true smp r = ((r.step rom smp).regs, (r.step rom smp).emitted) ∧
    wired rom false smp r = (r, none)

/-! ### Each row completes with its effect -/

/-- ARM (43_varicode_decoder.md R91): in every state, `armed <- 1`, `acc` unchanged, nothing emitted. -/
def Obligations.ArmSetsTheLatch : Prop :=
  ∀ (data : Bool) (c : Conditions) (s : State),
    decode .sample c (wordOfBits true data) = .ok (.arm data) ∧
    ∃ t, exec (.arm data) s = .next t ∧ s.Committed t true s.acc none

/-- HOLD (43_varicode_decoder.md R92): with `armed = 0` nothing changes and nothing is emitted. -/
def Obligations.HoldChangesNothing : Prop :=
  ∀ (data : Bool) (s : State), s.armed = false →
    decode .sample (sampleConditions s ⟨false, data⟩) (wordOfBits false data) = .ok (.hold data) ∧
    ∃ t, exec (.hold data) s = .next t ∧ s.Committed t false s.acc none

/-- SHIFT (43_varicode_decoder.md R93): with `armed = 1`, `acc[W-1] = 0` and the shifted value zero or with a non-zero
bit among its three lowest, `armed <- 0` and `acc <- 2 * acc + b`; nothing is emitted. -/
def Obligations.ShiftTakesInTheBit : Prop :=
  ∀ (b : Bool) (s : State), s.armed = true → s.acc.msb = false →
    (2 * s.acc.toNat + b.toNat = 0 ∨ (2 * s.acc.toNat + b.toNat) % 8 ≠ 0) →
    decode .sample (sampleConditions s ⟨false, b⟩) (wordOfBits false b) = .ok (.shift b) ∧
    ∃ t, exec (.shift b) s = .next t ∧ s.Committed t false (BitVec.ofNat Config.W (2 * s.acc.toNat + b.toNat)) none ∧
      t.acc.toNat = 2 * s.acc.toNat + b.toNat

/-- EMIT (43_varicode_decoder.md R94): with `armed = 1` and `2 * acc` the key of a ROM entry, `armed <- 0`, `acc <- 0` and
the entry's symbol is delivered. (A key is below `2^13`, so `acc[W-1] = 0`; it is a non-zero multiple of 8.) -/
def Obligations.EmitDeliversTheSymbol : Prop :=
  ∀ (e : RomEntry) (s : State), e ∈ defaultRom → s.armed = true → 2 * s.acc.toNat = e.key →
    decode .sample (sampleConditions s ⟨false, false⟩) (wordOfBits false false) = .ok .emit ∧
    ∃ t, exec .emit s = .next t ∧ s.Committed t false 0 (some e.sym)

/-- The rows K_00 to K_7F, all 128 (30_encoding.md R45 to R49, 40_lookup_rom.md R61, 43_varicode_decoder.md R94): the
capture of a 0 that completes the row's key delivers the row's symbol and clears. The 126 keys the source does not print
are the spec's default (log 2). -/
def Obligations.RomRowDeliversItsSymbol : Prop :=
  ∀ (i : Instr) (e : RomEntry) (s : State), romEntryOf i = some e → s.armed = true → 2 * s.acc.toNat = e.key →
    (encode i).toNat = e.key ∧
    ∃ t, exec i s = .next t ∧ s.Committed t false 0 (some e.sym)

/-- DROP (43_varicode_decoder.md R95): with `armed = 1`, `acc[W-1] = 0` and `2 * acc` a non-zero multiple of 8 that is no
key, `armed <- 0`, `acc <- 0` and nothing is emitted. -/
def Obligations.DropClearsSilently : Prop :=
  ∀ s : State, s.armed = true → s.acc.msb = false → s.acc ≠ 0 → (2 * s.acc.toNat) % 8 = 0 →
    (∀ e ∈ defaultRom, e.key ≠ 2 * s.acc.toNat) →
    decode .sample (sampleConditions s ⟨false, false⟩) (wordOfBits false false) = .ok .drop ∧
    outcomeCondition .drop = some .lookupNotFound ∧
    ∃ t, exec .drop s = .next t ∧ s.Committed t false 0 none

/-- OVF (43_varicode_decoder.md R96, the spec's decision D2): with `armed = 1` and `acc[W-1] = 1`, `armed <- 0`, `acc <- 0`,
nothing is emitted, whatever the data bit. -/
def Obligations.OverflowClearsSilently : Prop :=
  ∀ (data : Bool) (s : State), s.armed = true → s.acc.msb = true →
    decode .sample (sampleConditions s ⟨false, data⟩) (wordOfBits false data) = .ok (.ovf data) ∧
    outcomeCondition .ovf = some .accumulatorOverflow ∧
    ∃ t, exec (.ovf data) s = .next t ∧ s.Committed t false 0 none

/-- RESET (70_reset_and_hazards.md R130, the spec's decision D11): `armed <- 0`, `acc <- 0`, `sym_valid <- 0` in every state;
and an edge with `rst = 1` is a RESET whatever the other inputs are, a sample presented in it being lost. -/
def Obligations.ResetClearsWhateverIsPresented : Prop :=
  (∀ (en : Bool) (s : State), ∃ t, exec (.reset en) s = .next t ∧ s.Committed t false 0 none) ∧
  ∀ (s : State) (p : Edge) (rest : List Edge), s.edges = p :: rest → p.rst = true →
    ∃ t, step s = .next t ∧ s.consumeEdge.Committed t false 0 none ∧ t.edges = rest

/-- IDLE (43_varicode_decoder.md R101, the spec's decision D10): `armed` and `acc` keep their values and nothing is emitted,
for any number of cycles in which the host presents nothing, whatever the two lines carry meanwhile. -/
def Obligations.IdleKeepsTheRegisters : Prop :=
  (∀ s : State, ∃ t, exec .idle s = .next t ∧ s.Committed t s.armed s.acc none) ∧
  ∀ (n : Nat) (s : State), (∀ p ∈ s.edges, p.rst = false ∧ p.sampleEn = false) →
    s.observe n = [] ∧ ∃ t : State, Sys2Proof.core.run n s = .next t ∧ t.regs = s.regs ∧ (n ≠ 0 → t.symValid = false)

/-! ### The parts -/

/-- `armed' = s.clock` after every step, and the capture strobe is 1 exactly when a low sample finds `armed = 1`
(41_edge_detector.md, sections 2 and 3: the table the spec derives from R71 to R73). -/
def Obligations.ArmedFollowsTheClockLine : Prop :=
  (∀ clock armed : Bool, armedNext true clock armed = clock ∧ armedNext false clock armed = armed ∧
    (capture true clock armed = true ↔ clock = false ∧ armed = true)) ∧
  ∀ s : State, s.edge.rst = false → s.edge.sampleEn = true → ∃ t, step s = .next t ∧ t.armed = s.edge.clockIn

/-- 42_bit_accumulator.md R81, R84: without overflow the shift is `2 * acc + b`, nothing lost; overflow says exactly that
`2 * acc + b` needs another bit. -/
def Obligations.ShiftLosesNothingUnlessOverflow : Prop :=
  ∀ (w : Nat) (acc : BitVec w) (b : Bool), legalWidth w = true →
    (ovf acc = false → (shifted acc b).toNat = 2 * acc.toNat + b.toNat) ∧
    (ovf acc = true ↔ 2 ^ w ≤ 2 * acc.toNat + b.toNat)

/-- 42_bit_accumulator.md R83: the condition is "not zero, and three zero low bits"; its smallest value is 8; it requires
the captured bit to be 0; zero never meets it. -/
def Obligations.EndOfCharacterExactly : Prop :=
  ∀ (w : Nat), legalWidth w = true →
    (∀ v : BitVec w, eoc v = true ↔ v ≠ 0 ∧ v.toNat % 8 = 0) ∧
    (∀ v : BitVec w, eoc v = true → 8 ≤ v.toNat) ∧ eoc (8 : BitVec w) = true ∧
    (∀ (acc : BitVec w) (b : Bool), eoc (shifted acc b) = true → b = false) ∧ eoc (0 : BitVec w) = false

/-- 40_lookup_rom.md R61: at every legal width and for every legal ROM, `RomRead` is found exactly at a key, compared over
all bits, with that key's symbol; 0, a value that is not a multiple of 8 and a value at or above `2^13` are not found; and
the rule's examples with the default ROM. -/
def Obligations.RomReadIsExactEquality : Prop :=
  (∀ (w : Nat) (rom : Rom) (k : BitVec w), legalWidth w = true → rom.legal = true →
    (∀ sym, romRead rom k = some sym ↔ ∃ e ∈ rom, BitVec.ofNat w e.key = k ∧ e.sym = sym) ∧
    (k = 0 ∨ k.toNat % 8 ≠ 0 ∨ 2 ^ 13 ≤ k.toNat → romRead rom k = none)) ∧
  romRead defaultRom (24 : Acc) = some (.one 0x65) ∧ romRead defaultRom (232 : Acc) = some (.two 0x0D 0x0A) ∧
  romRead defaultRom (248 : Acc) = some (.two 0x0D 0x0A) ∧ romRead defaultRom (72 : Acc) = none ∧
  romRead defaultRom (24 + 2 ^ 13 : Acc) = none

/-- The default ROM meets the constraints of 30_encoding.md section 5 (R44), and holds every character code but 0x0A and
0x0D exactly once (R48, R49; the spec's decisions D6 and D7, log 2). -/
def Obligations.DefaultRomIsLegal : Prop :=
  defaultRom.legal = true ∧
  ∀ c : BitVec 7, c ≠ 0x0A → c ≠ 0x0D →
    (defaultRom.filter fun e => e.sym == .one (c.setWidth 8)).length = 1

/-- The rows of format K are the default ROM, key for key (30_encoding.md R55): what `RomRead` finds at a value is the
symbol of the row that value decodes to. -/
def Obligations.KeyRowsAreTheRom : Prop :=
  ∀ (k : Word) (sym : Symbol),
    romRead defaultRom k = some sym ↔ ∃ i e, decodeKey k = .ok i ∧ romEntryOf i = some e ∧ e.sym = sym

/-! ### Runs of the step function, at every legal width -/

/-- 43_varicode_decoder.md R102: every entry of every legal ROM decodes from its own bits: all captures but the last are
SHIFT, the last is EMIT with the entry's symbol, and the registers end as they began. -/
def Obligations.EveryKeyDecodes : Prop :=
  ∀ (w : Nat) (rom : Rom) (e : RomEntry), legalWidth w = true → rom.legal = true → e ∈ rom →
    (Regs.start w).emissions rom (keySamples e.key) = [e.sym] ∧
    (Regs.start w).after rom (keySamples e.key) = Regs.start w ∧
    (Regs.start w).outcomes rom (keySamples e.key) =
      (List.replicate ((keyBits e.key).length - 1) [StepOutcome.arm, .shift]).flatten ++ [.arm, .emit]

/-- 43_varicode_decoder.md R103: a run in which no capture without overflow has `eoc = 1` emits nothing, however long it
is; the first clause says so of finite runs, the second of infinite ones. The third: an overflow step clears the
accumulator and emits nothing. -/
def Obligations.NoEndOfCharacterNoSymbol : Prop :=
  ∀ (w : Nat) (rom : Rom) (r : Regs w),
    (∀ xs : List Sample,
      (∀ ys x zs, xs = ys ++ x :: zs → x.clock = false → (r.after rom ys).armed = true →
        ovf (r.after rom ys).acc = false → eoc (shifted (r.after rom ys).acc x.data) = false) →
      r.emissions rom xs = []) ∧
    (∀ xs : Nat → Sample,
      (∀ n, (xs n).clock = false → (r.stateAt rom xs n).armed = true →
        ovf (r.stateAt rom xs n).acc = false → eoc (shifted (r.stateAt rom xs n).acc (xs n).data) = false) →
      ∀ k y, ¬ r.ObservesAt rom xs k y) ∧
    ∀ x : Sample, x.clock = false → r.armed = true → ovf r.acc = true →
      (r.step rom x).regs.acc = 0 ∧ (r.step rom x).emitted = none

/-- 43_varicode_decoder.md R104: after every EMIT, DROP or OVF step the registers are `{armed = 0, acc = 0}`; the step after
it can only be ARM or HOLD, so two conditions never meet in consecutive steps (60_exceptions.md section 3). -/
def Obligations.EndOfCharacterLeavesTheStartState : Prop :=
  ∀ (w : Nat) (rom : Rom) (r : Regs w) (smp next : Sample),
    ((r.step rom smp).outcome = .emit ∨ (r.step rom smp).outcome = .drop ∨ (r.step rom smp).outcome = .ovf) →
    (r.step rom smp).regs = Regs.start w ∧
    (((r.step rom smp).regs.step rom next).outcome = .arm ∨ ((r.step rom smp).regs.step rom next).outcome = .hold)

/-- Self-synchronisation (43_varicode_decoder.md section 5, which the spec derives from R82, R83, R85, R86): from any state,
three captures of a zero bit leave the start state. -/
def Obligations.ThreeZeroBitsResynchronise : Prop :=
  ∀ (w : Nat) (rom : Rom) (r : Regs w), legalWidth w = true →
    r.after rom (bitsSamples [false, false, false]) = Regs.start w

/-- Spacing of emissions (43_varicode_decoder.md section 5, which the spec derives from R83 and R75): from the start state,
which every emission leaves, fewer than eight samples emit nothing. -/
def Obligations.EmissionsAreEightStepsApart : Prop :=
  ∀ (w : Nat) (rom : Rom) (xs : List Sample), legalWidth w = true → xs.length < 8 →
    (Regs.start w).emissions rom xs = []

/-- An unterminated burst, every one (42_bit_accumulator.md section 4, R89, which the spec derives from R81 to R86): into an
empty accumulator come `W` bits of which the first is 1, and none of whose prefixes is a non-zero value with three low zeros.
After capture `n` the accumulator is the value of the first `n` bits and its leading 1 is at bit `n - 1`; the `W` captures
are SHIFT, capture `W + 1` is OVF whatever its bit, and nothing is emitted. -/
def Obligations.UnterminatedBurstOverflowsAfterWBits : Prop :=
  ∀ (w : Nat) (rom : Rom) (a : Bool) (bs : List Bool) (b : Bool), legalWidth w = true →
    bs.length = w → bs.head? = some true →
    (∀ n, bitsValue (bs.take n) = 0 ∨ bitsValue (bs.take n) % 8 ≠ 0) →
    (∀ n, 0 < n → n ≤ w →
      ((Regs.mk a (0 : BitVec w)).after rom (bitsSamples (bs.take n))).armed = false ∧
      ((Regs.mk a (0 : BitVec w)).after rom (bitsSamples (bs.take n))).acc.toNat = bitsValue (bs.take n) ∧
      Nat.log2 (bitsValue (bs.take n)) = n - 1) ∧
    (Regs.mk a (0 : BitVec w)).outcomes rom (bitsSamples (bs ++ [b])) =
      (List.replicate w [StepOutcome.arm, .shift]).flatten ++ [.arm, .ovf] ∧
    (Regs.mk a (0 : BitVec w)).after rom (bitsSamples (bs ++ [b])) = Regs.start w ∧
    (Regs.mk a (0 : BitVec w)).emissions rom (bitsSamples (bs ++ [b])) = []

/-- The emissions of a run depend on `W` only where an overflow occurs in it (60_exceptions.md section 2, which the spec
derives from R90 and R96). -/
def Obligations.WidthMattersOnlyWithOverflow : Prop :=
  ∀ (w₁ w₂ : Nat) (rom : Rom) (r : Regs w₁) (xs : List Sample), legalWidth w₁ = true → w₁ ≤ w₂ →
    StepOutcome.ovf ∉ r.outcomes rom xs →
    (Regs.mk r.armed (r.acc.setWidth w₂)).emissions rom xs = r.emissions rom xs ∧
    (Regs.mk r.armed (r.acc.setWidth w₂)).outcomes rom xs = r.outcomes rom xs

/-- Characters too close together (43_varicode_decoder.md section 5, which the spec derives from R90, R83, R40): two `e` with
two zeros between them are one dropped value; with three zeros between, two symbols. -/
def Obligations.TwoZerosDoNotSeparate : Prop :=
  ∀ w : Nat, legalWidth w = true →
    (Regs.start w).emissions defaultRom
      (bitsSamples [true, true, false, false, true, true, false, false, false]) = [] ∧
    (Regs.start w).emissions defaultRom
      (bitsSamples [true, true, false, false, false, true, true, false, false, false]) = [.one 0x65, .one 0x65]

/-- The machine's observation is the run's (00_scope.md R8, 20_memory.md R28, 60_exceptions.md R126): from any state, with any
samples presented one per edge, the sink takes exactly the symbols the step function emits, in step order, and the
registers end as the fold of the step function leaves them. -/
def Obligations.MachineObservesTheRun : Prop :=
  ∀ (xs : List Sample) (s : State), s.edges = xs.map sampleEdge →
    s.observe xs.length = s.regs.emissions defaultRom xs ∧
    ∃ t : State, Sys2Proof.core.run xs.length s = .next t ∧ t.regs = s.regs.after defaultRom xs ∧ t.edges = []

/-- An infinite run (00_scope.md R8) extends its finite runs: its registers, outcomes and symbols up to any point are those
of the finite run to there, the symbols are only ever added to at the end, and each place of the observation holds one
symbol. -/
def Obligations.InfiniteRunExtendsItsFiniteRuns : Prop :=
  ∀ (w : Nat) (rom : Rom) (r : Regs w) (xs : Nat → Sample),
    (∀ n, r.stateAt rom xs n = r.after rom ((List.range n).map xs) ∧
      r.symbolsTo rom xs n = r.emissions rom ((List.range n).map xs) ∧
      (List.range n).map (fun k => (r.resultAt rom xs k).outcome) = r.outcomes rom ((List.range n).map xs)) ∧
    (∀ m n, m ≤ n → r.symbolsTo rom xs m <+: r.symbolsTo rom xs n) ∧
    ∀ k y z, r.ObservesAt rom xs k y → r.ObservesAt rom xs k z → y = z

/-- The machine's observation of an infinite run (00_scope.md R8, 60_exceptions.md R121, R126): whatever a host presents, edge
by edge and for ever, the machine goes on after every edge, its observation up to an edge is that of the finite list of
those inputs, and with a sample at every edge its registers and its observation are those of the infinite run of the step
function. That the host presents its inputs so is the model's choice (log 3). -/
def Obligations.MachineObservesTheInfiniteRun : Prop :=
  ∀ s : State,
    (∀ (ps : Nat → Edge) (n : Nat), (∃ t, s.afterEdges ps n = .next t ∧ t.edges = s.edges) ∧
      s.symbolsTo ps n = State.observe n { s with edges := (List.range n).map ps ++ s.edges }) ∧
    ∀ xs : Nat → Sample,
      (∀ n, ∃ t, s.afterEdges (fun k => sampleEdge (xs k)) n = .next t ∧ t.regs = s.regs.stateAt defaultRom xs n) ∧
      ∀ k y, s.ObservesAt (fun k => sampleEdge (xs k)) k y ↔ s.regs.ObservesAt defaultRom xs k y

/-! ### Invariants -/

/-- What reset leaves (10_state.md R19, 70_reset_and_hazards.md R130): `armed = 0`, `acc = 0`, `sym_valid = 0`, so nothing is
offered. -/
def Obligations.ResetValues : Prop :=
  State.reset.armed = false ∧ State.reset.acc = 0 ∧ State.reset.symValid = false ∧ State.reset.offered = none

/-- The state after reset meets the invariant (10_state.md section 2). -/
def Obligations.ResetMeetsTheInvariant : Prop := State.reset.Inv

/-- Every step keeps the invariant, from every state that meets it (10_state.md section 2; 43_varicode_decoder.md R100): no
three consecutive zeros inside the accumulator, and what is offered is a symbol of the ROM, over cleared registers. -/
def Obligations.StepKeepsTheInvariant : Prop :=
  ∀ s : State, s.Inv → ∃ t, step s = .next t ∧ t.Inv

/-- Every step, from any state, leaves `acc` unchanged or writes a value that meets `Inv` (10_state.md section 2). -/
def Obligations.EveryWriteOfAccMeetsInv : Prop :=
  ∀ s t : State, step s = .next t → t.acc = s.acc ∨ AccInv t.acc

/-- `sym_valid` is never 1 in two consecutive cycles (43_varicode_decoder.md R100), from any state. -/
def Obligations.SymValidIsAOneCyclePulse : Prop :=
  ∀ s t u : State, step s = .next t → step t = .next u → t.symValid = true → u.symValid = false

/-! ### What a step does not depend on -/

/-- The data line is read only in a capture that does not overflow (30_encoding.md section 1; 42_bit_accumulator.md R86): in
any other edge its value has no effect on anything. -/
def Obligations.DataIsReadOnlyInACapture : Prop :=
  ∀ (s : State) (p : Edge) (d : Bool) (rest : List Edge),
    (p.rst = true ∨ p.sampleEn = false ∨ p.clockIn = true ∨ s.armed = false ∨ s.acc.msb = true) →
    ∃ t, step { s with edges := p :: rest } = .next t ∧ step { s with edges := { p with dataIn := d } :: rest } = .next t

/-- 10_state.md R18: "the next state and the next emission never depend on" the output registers: two states that differ in
them only (and in the free values to be drawn) step to the same registers and offer the same symbol. -/
def Obligations.OutputRegistersAreWriteOnly : Prop :=
  ∀ s s' t t' : State, s.armed = s'.armed → s.acc = s'.acc → s.edges = s'.edges →
    step s = .next t → step s' = .next t' →
    t.armed = t'.armed ∧ t.acc = t'.acc ∧ t.edges = t'.edges ∧ t.symValid = t'.symValid ∧ t.offered = t'.offered
end

