-- ==== Sys2Proof/Laws/State.lean ====
section
/-! SUPPORT. One lemma per field per update of State, true by rfl, and what reset leaves in each field. -/

namespace Sys2Proof.Machine

section
variable (s : State) (a : Bool) (c : Acc) (e : Option Symbol)

@[simp] theorem State.commit_armed : (s.commit a c e).armed = a := rfl
@[simp] theorem State.commit_acc : (s.commit a c e).acc = c := rfl
@[simp] theorem State.commit_symValid : (s.commit a c e).symValid = e.isSome := rfl
@[simp] theorem State.commit_symLen : (s.commit a c e).symLen = outLen e s.drawn := rfl
@[simp] theorem State.commit_symChar0 : (s.commit a c e).symChar0 = outChar0 e s.drawn := rfl
@[simp] theorem State.commit_symChar1 : (s.commit a c e).symChar1 = outChar1 e s.drawn := rfl
@[simp] theorem State.commit_edges : (s.commit a c e).edges = s.edges := rfl
@[simp] theorem State.commit_drawn : (s.commit a c e).drawn = s.drawn + 1 := rfl

@[simp] theorem State.consumeEdge_armed : s.consumeEdge.armed = s.armed := rfl
@[simp] theorem State.consumeEdge_acc : s.consumeEdge.acc = s.acc := rfl
@[simp] theorem State.consumeEdge_symValid : s.consumeEdge.symValid = s.symValid := rfl
@[simp] theorem State.consumeEdge_symLen : s.consumeEdge.symLen = s.symLen := rfl
@[simp] theorem State.consumeEdge_symChar0 : s.consumeEdge.symChar0 = s.symChar0 := rfl
@[simp] theorem State.consumeEdge_symChar1 : s.consumeEdge.symChar1 = s.symChar1 := rfl
@[simp] theorem State.consumeEdge_edges : s.consumeEdge.edges = s.edges.tail := rfl
@[simp] theorem State.consumeEdge_drawn : s.consumeEdge.drawn = s.drawn := rfl
@[simp] theorem State.consumeEdge_regs : s.consumeEdge.regs = s.regs := rfl

@[simp] theorem State.present_armed (p : Edge) : (s.present p).armed = s.armed := rfl
@[simp] theorem State.present_acc (p : Edge) : (s.present p).acc = s.acc := rfl
@[simp] theorem State.present_symValid (p : Edge) : (s.present p).symValid = s.symValid := rfl
@[simp] theorem State.present_symLen (p : Edge) : (s.present p).symLen = s.symLen := rfl
@[simp] theorem State.present_symChar0 (p : Edge) : (s.present p).symChar0 = s.symChar0 := rfl
@[simp] theorem State.present_symChar1 (p : Edge) : (s.present p).symChar1 = s.symChar1 := rfl
@[simp] theorem State.present_edges (p : Edge) : (s.present p).edges = p :: s.edges := rfl
@[simp] theorem State.present_drawn (p : Edge) : (s.present p).drawn = s.drawn := rfl
@[simp] theorem State.present_regs (p : Edge) : (s.present p).regs = s.regs := rfl
@[simp] theorem State.present_edge (p : Edge) : (s.present p).edge = p := rfl
@[simp] theorem State.present_consumeEdge (p : Edge) : (s.present p).consumeEdge = s := rfl

@[simp] theorem State.regs_armed : s.regs.armed = s.armed := rfl
@[simp] theorem State.regs_acc : s.regs.acc = s.acc := rfl
@[simp] theorem State.commit_regs : (s.commit a c e).regs = ⟨a, c⟩ := rfl
@[simp] theorem State.absorb_eq (k : Condition) : s.absorb k = s.commit false 0 none := rfl

end

@[simp] theorem outLen_some (y : Symbol) (n : Nat) : outLen (some y) n = symbolLen y := rfl
@[simp] theorem outChar0_some (y : Symbol) (n : Nat) : outChar0 (some y) n = symbolChar0 y := rfl
@[simp] theorem outChar1_two (c0 c1 : Byte) (n : Nat) : outChar1 (some (.two c0 c1)) n = c1 := rfl
@[simp] theorem symbolLen_one (c : Byte) : symbolLen (.one c) = 1 := rfl
@[simp] theorem symbolLen_two (c0 c1 : Byte) : symbolLen (.two c0 c1) = 2 := rfl
@[simp] theorem symbolChar0_one (c : Byte) : symbolChar0 (.one c) = c := rfl
@[simp] theorem symbolChar0_two (c0 c1 : Byte) : symbolChar0 (.two c0 c1) = c0 := rfl
@[simp] theorem symbolChar1_one (c : Byte) : symbolChar1 (.one c) = none := rfl
@[simp] theorem symbolChar1_two (c0 c1 : Byte) : symbolChar1 (.two c0 c1) = some c1 := rfl

@[simp] theorem State.reset_edges : State.reset.edges = [] := rfl
@[simp] theorem State.reset_drawn : State.reset.drawn = 0 := rfl

@[simp] theorem edgeSample_sampleEdge (smp : Sample) : edgeSample (sampleEdge smp) = smp := rfl
@[simp] theorem sampleEdge_rst (smp : Sample) : (sampleEdge smp).rst = false := rfl
@[simp] theorem sampleEdge_sampleEn (smp : Sample) : (sampleEdge smp).sampleEn = true := rfl
@[simp] theorem State.edge_cons (s : State) (p : Edge) (rest : List Edge) :
    (State.edge { s with edges := p :: rest }) = p := rfl

/-- What the sink reads after an edge is exactly what the edge emitted, whatever the free values are. -/
@[simp] theorem State.commit_offered (s : State) (a : Bool) (c : Acc) (e : Option Symbol) :
    (s.commit a c e).offered = e := by
  cases e with
  | none => rfl
  | some y => cases y <;> rfl

/-- The writes of an edge are what `State.Committed` says of it. -/
theorem State.commit_committed (s : State) (a : Bool) (c : Acc) (e : Option Symbol) :
    s.Committed (s.commit a c e) a c e := by
  refine ⟨rfl, rfl, rfl, rfl, ?_⟩
  rintro y rfl
  refine ⟨rfl, rfl, ?_⟩
  intro c1 h
  simp [State.commit, outChar1, h]

end Sys2Proof.Machine
end

