-- ==== Sys2Proof/Laws/Ops.lean ====
section
/-! SUPPORT. One lemma for each shared operation, saying what it can do. -/

namespace Sys2Proof.Machine

/-- The shift as arithmetic, at any positive width. -/
theorem shifted_toNat {w : Nat} (hw : 0 < w) (acc : BitVec w) (b : Bool) :
    (shifted acc b).toNat = (2 * acc.toNat + b.toNat) % 2 ^ w := by
  have h2 : b.toNat < 2 ^ w := lt_of_lt_of_le (by cases b <;> decide : b.toNat < 2 ^ 1) (Nat.pow_le_pow_right (by omega) hw)
  rw [shifted, BitVec.toNat_or, BitVec.toNat_shiftLeft, BitVec.toNat_setWidth]
  obtain ⟨k, rfl⟩ : ∃ k, w = k + 1 := ⟨w - 1, by omega⟩
  have hb : (BitVec.ofBool b).toNat % 2 ^ (k + 1) = b.toNat := by
    rw [BitVec.toNat_ofBool]; exact Nat.mod_eq_of_lt h2
  rw [hb, Nat.shiftLeft_eq, pow_one, mul_comm acc.toNat 2, pow_succ, mul_comm (2 ^ k) 2,
    Nat.mul_mod_mul_left]
  have h1 : b.toNat < 2 ^ 1 := by cases b <;> decide
  have := Nat.two_pow_add_eq_or_of_lt h1 (acc.toNat % 2 ^ k)
  rw [pow_one] at this
  rw [← this]
  have hp : 0 < 2 ^ k := Nat.two_pow_pos k
  have hm := Nat.div_add_mod acc.toNat (2 ^ k)
  have hlt := Nat.mod_lt acc.toNat hp
  generalize acc.toNat % 2 ^ k = m at *
  generalize acc.toNat / 2 ^ k = q at *
  generalize 2 ^ k = p at *
  rw [← hm, show 2 * (p * q + m) + b.toNat = (2 * m + b.toNat) + (2 * p) * q by ring,
    Nat.add_mul_mod_self_left, Nat.mod_eq_of_lt]
  have : b.toNat ≤ 1 := by cases b <;> decide
  omega

/-- The three low bits of a value are zero exactly when it is a multiple of 8. -/
theorem lowThree_eq_zero_iff {w : Nat} (v : BitVec w) : v.extractLsb' 0 3 = 0 ↔ v.toNat % 8 = 0 := by
  rw [← BitVec.toNat_inj]; simp [BitVec.extractLsb'_toNat]

/-- The end-of-character condition is its two tests. -/
theorem eoc_eq_true_iff {w : Nat} (v : BitVec w) : eoc v = true ↔ v ≠ 0 ∧ v.extractLsb' 0 3 = 0 := by
  simp [eoc]

/-- Without the end-of-character condition the value meets `AccInv`. -/
theorem accInv_of_not_eoc {w : Nat} {v : BitVec w} (h : eoc v = false) : AccInv v := by
  by_contra hc
  rw [not_or, not_not] at hc
  rw [(eoc_eq_true_iff v).2 hc] at h
  exact Bool.noConfusion h

/-- A lookup that finds, finds an entry with that key. -/
theorem romRead_some {w : Nat} {rom : Rom} {k : BitVec w} {sym : Symbol} (h : romRead rom k = some sym) :
    ∃ e ∈ rom, e.key = k.toNat ∧ e.sym = sym := by
  obtain ⟨e, he, hs⟩ := Option.map_eq_some_iff.1 h
  exact ⟨e, List.mem_of_find?_eq_some he, by simpa using List.find?_some he, hs⟩

/-- A lookup misses exactly when no entry has the key. -/
theorem romRead_none_iff {w : Nat} {rom : Rom} {k : BitVec w} :
    romRead rom k = none ↔ ∀ e ∈ rom, e.key ≠ k.toNat := by
  simp [romRead, List.find?_eq_none]

/-- Everything a step of the step function can do (43_varicode_decoder.md R90), one case per outcome. -/
theorem Regs.step_cases {w : Nat} (rom : Rom) (r : Regs w) (smp : Sample) :
    (smp.clock = true ∧ r.step rom smp = ⟨⟨true, r.acc⟩, none, .arm⟩) ∨
    (smp.clock = false ∧ r.armed = false ∧ r.step rom smp = ⟨⟨false, r.acc⟩, none, .hold⟩) ∨
    (smp.clock = false ∧ r.armed = true ∧ ovf r.acc = true ∧ r.step rom smp = ⟨⟨false, 0⟩, none, .ovf⟩) ∨
    (smp.clock = false ∧ r.armed = true ∧ ovf r.acc = false ∧ eoc (shifted r.acc smp.data) = false ∧
      r.step rom smp = ⟨⟨false, shifted r.acc smp.data⟩, none, .shift⟩) ∨
    (smp.clock = false ∧ r.armed = true ∧ ovf r.acc = false ∧ eoc (shifted r.acc smp.data) = true ∧
      ∃ sym, romRead rom (shifted r.acc smp.data) = some sym ∧ r.step rom smp = ⟨⟨false, 0⟩, some sym, .emit⟩) ∨
    (smp.clock = false ∧ r.armed = true ∧ ovf r.acc = false ∧ eoc (shifted r.acc smp.data) = true ∧
      romRead rom (shifted r.acc smp.data) = none ∧ r.step rom smp = ⟨⟨false, 0⟩, none, .drop⟩) := by
  cases hc : smp.clock <;> cases ha : r.armed <;> cases ho : ovf r.acc <;>
    cases he : eoc (shifted r.acc smp.data) <;> cases hr : romRead rom (shifted r.acc smp.data) <;>
    simp [Regs.step, hc, ha, ho, he, hr]

/-- Everything a clock edge can do (43_varicode_decoder.md R100): RESET, a sample, IDLE. -/
theorem State.clocked_cases (s : State) (p : Edge) :
    (p.rst = true ∧ s.clocked p = s.commit false 0 none) ∨
    (p.rst = false ∧ p.sampleEn = true ∧ s.clocked p = s.sampled (edgeSample p)) ∨
    (p.rst = false ∧ p.sampleEn = false ∧ s.clocked p = s.commit s.armed s.acc none) := by
  cases hr : p.rst <;> cases he : p.sampleEn <;> simp [State.clocked, hr, he]

@[simp] theorem State.sampled_edges (s : State) (smp : Sample) : (s.sampled smp).edges = s.edges := rfl

@[simp] theorem State.clocked_edges (s : State) (p : Edge) : (s.clocked p).edges = s.edges := by
  obtain ⟨-, h⟩ | ⟨-, -, h⟩ | ⟨-, -, h⟩ := s.clocked_cases p <;> rw [h] <;> rfl

/-- A row of format K delivers its symbol where its conditions hold, and else processes `low(data=0)`. -/
theorem execRomRow_eq (e : RomEntry) (s : State) :
    execRomRow e s =
      if s.armed = true ∧ ovf s.acc = false ∧ eoc (shifted s.acc false) = true ∧ (shifted s.acc false).toNat = e.key
      then .next (s.commit false 0 (some e.sym)) else .next (s.sampled ⟨false, false⟩) := by
  simp only [execRomRow, capture]
  cases s.armed <;> cases ovf s.acc <;> cases eoc (shifted s.acc false) <;>
    simp

end Sys2Proof.Machine
end

