-- ==== Sys2Proof/Laws/PerInstr.lean ====
section
/-! SUPPORT. Per-row lemmas. Family EncodeDecodes: under every value of the state columns that the row admits, its
word, given to the decoder of its format, decodes to it (30_encoding.md R53, R54, R55). -/

namespace Sys2Proof.Laws.EncodeDecodes

/-- The row's word decodes to the row. -/
def Statement (i : Instr) : Prop :=
  ∀ c, rowConditions i c = true → decode (formatOf i) c (encode i) = .ok i

/-- A word the key table lists decodes to the row listed, whatever the state columns. -/
theorem of_key {i : Instr} (h : decodeKey (encode i) = .ok i) (hf : formatOf i = .key) : Statement i := by
  intro c _
  rw [hf]
  exact h

theorem arm (data : Bool) : Statement (.arm data) := by
  rintro ⟨a, o, e, h⟩; revert a o e h; cases data <;> decide

theorem hold (data : Bool) : Statement (.hold data) := by
  rintro ⟨a, o, e, h⟩; revert a o e h; cases data <;> decide

theorem shift (data : Bool) : Statement (.shift data) := by
  rintro ⟨a, o, e, h⟩; revert a o e h; cases data <;> decide

theorem emit : Statement .emit := by
  rintro ⟨a, o, e, h⟩; revert a o e h; decide

theorem drop : Statement .drop := by
  rintro ⟨a, o, e, h⟩; revert a o e h; decide

theorem ovf (data : Bool) : Statement (.ovf data) := by
  rintro ⟨a, o, e, h⟩; revert a o e h; cases data <;> decide

theorem reset (sampleEn : Bool) : Statement (.reset sampleEn) := by
  rintro ⟨a, o, e, h⟩; revert a o e h; cases sampleEn <;> decide

theorem idle : Statement .idle := by
  rintro ⟨a, o, e, h⟩; revert a o e h; decide

theorem k00 : Statement .k00 := of_key rfl rfl
theorem k01 : Statement .k01 := of_key rfl rfl
theorem k02 : Statement .k02 := of_key rfl rfl
theorem k03 : Statement .k03 := of_key rfl rfl
theorem k04 : Statement .k04 := of_key rfl rfl
theorem k05 : Statement .k05 := of_key rfl rfl
theorem k06 : Statement .k06 := of_key rfl rfl
theorem k07 : Statement .k07 := of_key rfl rfl
theorem k08 : Statement .k08 := of_key rfl rfl
theorem k09 : Statement .k09 := of_key rfl rfl
theorem k0A : Statement .k0A := of_key rfl rfl
theorem k0B : Statement .k0B := of_key rfl rfl
theorem k0C : Statement .k0C := of_key rfl rfl
theorem k0D : Statement .k0D := of_key rfl rfl
theorem k0E : Statement .k0E := of_key rfl rfl
theorem k0F : Statement .k0F := of_key rfl rfl
theorem k10 : Statement .k10 := of_key rfl rfl
theorem k11 : Statement .k11 := of_key rfl rfl
theorem k12 : Statement .k12 := of_key rfl rfl
theorem k13 : Statement .k13 := of_key rfl rfl
theorem k14 : Statement .k14 := of_key rfl rfl
theorem k15 : Statement .k15 := of_key rfl rfl
theorem k16 : Statement .k16 := of_key rfl rfl
theorem k17 : Statement .k17 := of_key rfl rfl
theorem k18 : Statement .k18 := of_key rfl rfl
theorem k19 : Statement .k19 := of_key rfl rfl
theorem k1A : Statement .k1A := of_key rfl rfl
theorem k1B : Statement .k1B := of_key rfl rfl
theorem k1C : Statement .k1C := of_key rfl rfl
theorem k1D : Statement .k1D := of_key rfl rfl
theorem k1E : Statement .k1E := of_key rfl rfl
theorem k1F : Statement .k1F := of_key rfl rfl
theorem k20 : Statement .k20 := of_key rfl rfl
theorem k21 : Statement .k21 := of_key rfl rfl
theorem k22 : Statement .k22 := of_key rfl rfl
theorem k23 : Statement .k23 := of_key rfl rfl
theorem k24 : Statement .k24 := of_key rfl rfl
theorem k25 : Statement .k25 := of_key rfl rfl
theorem k26 : Statement .k26 := of_key rfl rfl
theorem k27 : Statement .k27 := of_key rfl rfl
theorem k28 : Statement .k28 := of_key rfl rfl
theorem k29 : Statement .k29 := of_key rfl rfl
theorem k2A : Statement .k2A := of_key rfl rfl
theorem k2B : Statement .k2B := of_key rfl rfl
theorem k2C : Statement .k2C := of_key rfl rfl
theorem k2D : Statement .k2D := of_key rfl rfl
theorem k2E : Statement .k2E := of_key rfl rfl
theorem k2F : Statement .k2F := of_key rfl rfl
theorem k30 : Statement .k30 := of_key rfl rfl
theorem k31 : Statement .k31 := of_key rfl rfl
theorem k32 : Statement .k32 := of_key rfl rfl
theorem k33 : Statement .k33 := of_key rfl rfl
theorem k34 : Statement .k34 := of_key rfl rfl
theorem k35 : Statement .k35 := of_key rfl rfl
theorem k36 : Statement .k36 := of_key rfl rfl
theorem k37 : Statement .k37 := of_key rfl rfl
theorem k38 : Statement .k38 := of_key rfl rfl
theorem k39 : Statement .k39 := of_key rfl rfl
theorem k3A : Statement .k3A := of_key rfl rfl
theorem k3B : Statement .k3B := of_key rfl rfl
theorem k3C : Statement .k3C := of_key rfl rfl
theorem k3D : Statement .k3D := of_key rfl rfl
theorem k3E : Statement .k3E := of_key rfl rfl
theorem k3F : Statement .k3F := of_key rfl rfl
theorem k40 : Statement .k40 := of_key rfl rfl
theorem k41 : Statement .k41 := of_key rfl rfl
theorem k42 : Statement .k42 := of_key rfl rfl
theorem k43 : Statement .k43 := of_key rfl rfl
theorem k44 : Statement .k44 := of_key rfl rfl
theorem k45 : Statement .k45 := of_key rfl rfl
theorem k46 : Statement .k46 := of_key rfl rfl
theorem k47 : Statement .k47 := of_key rfl rfl
theorem k48 : Statement .k48 := of_key rfl rfl
theorem k49 : Statement .k49 := of_key rfl rfl
theorem k4A : Statement .k4A := of_key rfl rfl
theorem k4B : Statement .k4B := of_key rfl rfl
theorem k4C : Statement .k4C := of_key rfl rfl
theorem k4D : Statement .k4D := of_key rfl rfl
theorem k4E : Statement .k4E := of_key rfl rfl
theorem k4F : Statement .k4F := of_key rfl rfl
theorem k50 : Statement .k50 := of_key rfl rfl
theorem k51 : Statement .k51 := of_key rfl rfl
theorem k52 : Statement .k52 := of_key rfl rfl
theorem k53 : Statement .k53 := of_key rfl rfl
theorem k54 : Statement .k54 := of_key rfl rfl
theorem k55 : Statement .k55 := of_key rfl rfl
theorem k56 : Statement .k56 := of_key rfl rfl
theorem k57 : Statement .k57 := of_key rfl rfl
theorem k58 : Statement .k58 := of_key rfl rfl
theorem k59 : Statement .k59 := of_key rfl rfl
theorem k5A : Statement .k5A := of_key rfl rfl
theorem k5B : Statement .k5B := of_key rfl rfl
theorem k5C : Statement .k5C := of_key rfl rfl
theorem k5D : Statement .k5D := of_key rfl rfl
theorem k5E : Statement .k5E := of_key rfl rfl
theorem k5F : Statement .k5F := of_key rfl rfl
theorem k60 : Statement .k60 := of_key rfl rfl
theorem k61 : Statement .k61 := of_key rfl rfl
theorem k62 : Statement .k62 := of_key rfl rfl
theorem k63 : Statement .k63 := of_key rfl rfl
theorem k64 : Statement .k64 := of_key rfl rfl
theorem k65 : Statement .k65 := of_key rfl rfl
theorem k66 : Statement .k66 := of_key rfl rfl
theorem k67 : Statement .k67 := of_key rfl rfl
theorem k68 : Statement .k68 := of_key rfl rfl
theorem k69 : Statement .k69 := of_key rfl rfl
theorem k6A : Statement .k6A := of_key rfl rfl
theorem k6B : Statement .k6B := of_key rfl rfl
theorem k6C : Statement .k6C := of_key rfl rfl
theorem k6D : Statement .k6D := of_key rfl rfl
theorem k6E : Statement .k6E := of_key rfl rfl
theorem k6F : Statement .k6F := of_key rfl rfl
theorem k70 : Statement .k70 := of_key rfl rfl
theorem k71 : Statement .k71 := of_key rfl rfl
theorem k72 : Statement .k72 := of_key rfl rfl
theorem k73 : Statement .k73 := of_key rfl rfl
theorem k74 : Statement .k74 := of_key rfl rfl
theorem k75 : Statement .k75 := of_key rfl rfl
theorem k76 : Statement .k76 := of_key rfl rfl
theorem k77 : Statement .k77 := of_key rfl rfl
theorem k78 : Statement .k78 := of_key rfl rfl
theorem k79 : Statement .k79 := of_key rfl rfl
theorem k7A : Statement .k7A := of_key rfl rfl
theorem k7B : Statement .k7B := of_key rfl rfl
theorem k7C : Statement .k7C := of_key rfl rfl
theorem k7D : Statement .k7D := of_key rfl rfl
theorem k7E : Statement .k7E := of_key rfl rfl
theorem k7F : Statement .k7F := of_key rfl rfl

end Sys2Proof.Laws.EncodeDecodes
end

