-- ==== Sys2Proof/Laws/Rom.lean ====
section
/-! SUPPORT. The default ROM and the rows of format K: each transcription of the table agrees with the other, and what
a lookup and a row then do. -/

namespace Sys2Proof.Machine

set_option maxRecDepth 20000 in
/-- Every default key is a non-zero multiple of 8 below `2^13` (20_memory.md R26). -/
theorem defaultRom_keys : ∀ e ∈ defaultRom, e.key < 8192 ∧ e.key % 8 = 0 ∧ e.key ≠ 0 := by decide +kernel

set_option maxRecDepth 20000 in
/-- Every entry of the default ROM is the entry of a row of the key table. -/
theorem defaultRom_row : ∀ e ∈ defaultRom, ∃ p ∈ keyTable, p.1 = e.key ∧ romEntryOf p.2 = some e := by decide +kernel

set_option maxRecDepth 20000 in
/-- Every row of the key table names an entry of the default ROM, with that key. -/
theorem keyTable_entry : ∀ p ∈ keyTable, ∃ e ∈ defaultRom, p.1 = e.key ∧ romEntryOf p.2 = some e := by decide +kernel

set_option maxRecDepth 20000 in
/-- Every row of the key table encodes as its key. -/
theorem keyTable_encode : ∀ p ∈ keyTable, (encode p.2).toNat = p.1 ∧ formatOf p.2 = .key := by decide +kernel

set_option maxRecDepth 20000 in
theorem defaultRom_nodup : (defaultRom.map RomEntry.key).Nodup := by decide +kernel

set_option maxRecDepth 20000 in
theorem keyTable_nodup : (keyTable.map Prod.fst).Nodup := by decide +kernel

/-- A word that decodes as a key is listed with that row. -/
theorem mem_of_decodeKey {w : Word} {i : Instr} (h : decodeKey w = .ok i) : (w.toNat, i) ∈ keyTable := by
  unfold decodeKey at h
  split at h
  · rename_i p hp
    have h1 := List.mem_of_find?_eq_some hp
    have h2 := List.find?_some hp
    simp only [beq_iff_eq, Except.ok.injEq] at h2 h
    subst h
    rw [← h2]
    exact h1
  · cases h

/-- A listed key decodes to its row. -/
theorem decodeKey_of_mem {w : Word} {i : Instr} (h : (w.toNat, i) ∈ keyTable) : decodeKey w = .ok i := by
  unfold decodeKey
  cases hf : keyTable.find? fun p => p.1 == w.toNat with
  | none => exact absurd (List.find?_eq_none.1 hf _ h) (by simp)
  | some q =>
    have h1 := List.mem_of_find?_eq_some hf
    have h2 := List.find?_some hf
    simp only [beq_iff_eq] at h2
    rw [List.inj_on_of_nodup_map keyTable_nodup h1 h h2]

/-- Where the keys are distinct, a lookup at an entry's key finds its symbol. -/
theorem romRead_of_mem {w : Nat} {rom : Rom} (hd : (rom.map RomEntry.key).Nodup) {k : BitVec w} {e : RomEntry}
    (he : e ∈ rom) (hk : e.key = k.toNat) : romRead rom k = some e.sym := by
  cases h : romRead rom k with
  | none => exact absurd hk (romRead_none_iff.1 h e he)
  | some y =>
    obtain ⟨e', h1, h2, h3⟩ := romRead_some h
    rw [← h3, List.inj_on_of_nodup_map hd h1 he (h2.trans hk.symm)]

/-- A row of format K has an entry, and only such a row has one. -/
theorem exists_romEntryOf_iff (i : Instr) : (∃ e, romEntryOf i = some e) ↔ formatOf i = .key := by
  cases i <;> first | exact ⟨fun _ => rfl, fun _ => ⟨_, rfl⟩⟩ | simp [romEntryOf, formatOf]

/-- A row's entry is in the default ROM. -/
theorem romEntryOf_mem {i : Instr} {e : RomEntry} (h : romEntryOf i = some e) : e ∈ defaultRom := by
  cases i <;> first
    | (simp [romEntryOf] at h; done)
    | (simp only [romEntryOf, Option.some.injEq] at h; subst h; decide)

/-- Every row of format K is the shared operation on its entry. -/
theorem exec_of_romEntryOf {i : Instr} {e : RomEntry} (h : romEntryOf i = some e) (s : State) :
    exec i s = execRomRow e s := by
  cases i <;> first
    | (simp [romEntryOf] at h; done)
    | (simp only [romEntryOf, Option.some.injEq] at h; subst h; rfl)

/-- Behind every hit of the default ROM stands one row of format K, and `romRow` is that row. -/
theorem romRow_of_hit {v : Acc} {y : Symbol} (h : romRead defaultRom v = some y) :
    ∃ e, decodeKey (keyWord v) = .ok (romRow v) ∧ romEntryOf (romRow v) = some e ∧ e.key = v.toNat ∧ e.sym = y := by
  obtain ⟨e, h1, h2, h3⟩ := romRead_some h
  obtain ⟨p, hp, hpk, hpe⟩ := defaultRom_row e h1
  have hd : decodeKey (keyWord v) = .ok p.2 := by
    apply decodeKey_of_mem
    rw [show (keyWord v).toNat = p.1 by simp [keyWord, hpk, h2]]
    exact hp
  have hr : romRow v = p.2 := by rw [romRow, hd]
  exact ⟨e, by rw [hr, hd], by rw [hr, hpe], h2, h3⟩

end Sys2Proof.Machine
end

