-- ==== Sys2Proof/Laws/Runs.lean ====
section
/-! SUPPORT. Runs of the step function: over appended streams, over the two samples of one bit, and one more
step of an infinite run. -/

namespace Sys2Proof.Machine

section
variable {w : Nat} (rom : Rom) (r : Regs w) (xs ys : List Sample)

theorem Regs.after_append : r.after rom (xs ++ ys) = (r.after rom xs).after rom ys := by
  induction xs generalizing r with
  | nil => rfl
  | cons x xs ih => simp [Regs.after, ih]

theorem Regs.emissions_append :
    r.emissions rom (xs ++ ys) = r.emissions rom xs ++ (r.after rom xs).emissions rom ys := by
  induction xs generalizing r with
  | nil => rfl
  | cons x xs ih => simp [Regs.after, Regs.emissions, ih]

theorem Regs.outcomes_append :
    r.outcomes rom (xs ++ ys) = r.outcomes rom xs ++ (r.after rom xs).outcomes rom ys := by
  induction xs generalizing r with
  | nil => rfl
  | cons x xs ih => simp [Regs.after, Regs.outcomes, ih]

/-- A bit is one ARM and one capture, whatever `armed` was. -/
theorem Regs.after_bit (b : Bool) :
    r.after rom (bitSamples b) = ((Regs.mk true r.acc).step rom ⟨false, b⟩).regs := rfl

theorem Regs.emissions_bit (b : Bool) :
    r.emissions rom (bitSamples b) = ((Regs.mk true r.acc).step rom ⟨false, b⟩).emitted.toList := by
  simp [Regs.emissions, bitSamples, Regs.step]

theorem Regs.outcomes_bit (b : Bool) :
    r.outcomes rom (bitSamples b) = [.arm, ((Regs.mk true r.acc).step rom ⟨false, b⟩).outcome] := by
  simp [Regs.outcomes, bitSamples, Regs.step]

end

section
variable {w : Nat} (rom : Rom) (r : Regs w) (xs : Nat → Sample) (n : Nat)

@[simp] theorem Regs.stateAt_zero : r.stateAt rom xs 0 = r := rfl
@[simp] theorem Regs.stateAt_succ : r.stateAt rom xs (n + 1) = (r.resultAt rom xs n).regs := rfl
@[simp] theorem Regs.symbolsTo_zero : r.symbolsTo rom xs 0 = [] := rfl
@[simp] theorem Regs.symbolsTo_succ :
    r.symbolsTo rom xs (n + 1) = r.symbolsTo rom xs n ++ (r.resultAt rom xs n).emitted.toList := rfl

/-- The machine's run, one more edge presented. -/
theorem State.afterEdges_succ {s t : State} {ps : Nat → Edge} {n : Nat} (h : s.afterEdges ps n = .next t) :
    s.afterEdges ps (n + 1) = step (t.present (ps n)) := by
  rw [State.afterEdges, h]

end

@[simp] theorem bitsValue_nil : bitsValue [] = 0 := rfl
@[simp] theorem bitsValue_append_singleton (bs : List Bool) (b : Bool) :
    bitsValue (bs ++ [b]) = 2 * bitsValue bs + b.toNat := by simp [bitsValue]

theorem bitsSamples_append (bs cs : List Bool) : bitsSamples (bs ++ cs) = bitsSamples bs ++ bitsSamples cs := by
  simp [bitsSamples]

theorem bitsSamples_cons (b : Bool) (bs : List Bool) :
    bitsSamples (b :: bs) = bitSamples b ++ bitsSamples bs := rfl

/-- The host's run, one step unfolded. -/
theorem core_run_succ {s s' : State} (h : step s = .next s') (n : Nat) :
    Sys2Proof.core.run (n + 1) s = Sys2Proof.core.run n s' := by
  simp only [Host.Core.run]
  rw [show Sys2Proof.core.step s = .next s' from h]

end Sys2Proof.Machine
end

