-- ==== Sys2Proof/Tests/Slice0.lean ====
section
/-! SUPPORT. Tests. Expected results are the spec's: the tables of 30_encoding.md, the vectors of 95_test_vectors.md
(their ids in the docstrings), and hand computation from the rules where a docstring says so. -/

set_option maxRecDepth 20000

namespace Sys2Proof.Tests
open Sys2Proof.Machine

/-! ### Decoding: words written out from 30_encoding.md R35, R53, R54 and the hexadecimal keys of R45 to R49 -/

/-- R53, row by row; R54. -/
theorem test_decode_sample_rows :
    decodeSample ⟨false, false, false, false⟩ 0b10 = .ok (.arm false) ∧
    decodeSample ⟨true, true, false, false⟩ 0b11 = .ok (.arm true) ∧
    decodeSample ⟨false, true, true, true⟩ 0b01 = .ok (.hold true) ∧
    decodeSample ⟨true, false, false, true⟩ 0b00 = .ok (.shift false) ∧
    decodeSample ⟨true, false, true, true⟩ 0b00 = .ok .emit ∧
    decodeSample ⟨true, false, true, false⟩ 0b00 = .ok .drop ∧
    decodeSample ⟨true, true, true, true⟩ 0b01 = .ok (.ovf true) := by decide

theorem test_decode_port_rows :
    decodePort 0b11 = .ok (.reset true) ∧ decodePort 0b10 = .ok (.reset false) ∧ decodePort 0b00 = .ok .idle := by decide

theorem test_decode_rejects :
    decodePort 0b01 = .error .sampleConsumed ∧ decodePort 0b100 = .error .bitsAboveTheWord ∧
    decodeSample resetConditions 0b110 = .error .bitsAboveTheWord ∧
    decodeSample ⟨true, false, true, false⟩ 0b01 = .error .eocWithDataOne ∧
    decodeKey 72 = .error .unmappedKey ∧ decodeKey 0x2018 = .error .unmappedKey := by decide

/-- Does the key decode to the row, and does the row's entry hold the key and the symbol. -/
def rowIs (p : Nat × Instr × Symbol) : Bool :=
  (decodeKey (BitVec.ofNat 32 p.1)).toOption == some p.2.1 && romEntryOf p.2.1 == some ⟨p.1, p.2.2⟩

theorem test_key_rows_00 : List.all [
    (0x1558, .k00, .one 0x00), (0x16D8, .k01, .one 0x01), (0x1768, .k02, .one 0x02), (0x1BB8, .k03, .one 0x03),
    (0x1758, .k04, .one 0x04), (0x1AF8, .k05, .one 0x05), (0x1778, .k06, .one 0x06), (0x17E8, .k07, .one 0x07),
    (0x17F8, .k08, .one 0x08), (0x0778, .k09, .one 0x09), (0x00E8, .k0A, .two 0x0D 0x0A), (0x1B78, .k0B, .one 0x0B),
    (0x16E8, .k0C, .one 0x0C), (0x00F8, .k0D, .two 0x0D 0x0A), (0x1BA8, .k0E, .one 0x0E), (0x1D58, .k0F, .one 0x0F)] rowIs = true := by decide

theorem test_key_rows_10 : List.all [
    (0x17B8, .k10, .one 0x10), (0x17A8, .k11, .one 0x11), (0x1D68, .k12, .one 0x12), (0x1D78, .k13, .one 0x13),
    (0x1AD8, .k14, .one 0x14), (0x1B58, .k15, .one 0x15), (0x1B68, .k16, .one 0x16), (0x1AB8, .k17, .one 0x17),
    (0x1BD8, .k18, .one 0x18), (0x1BE8, .k19, .one 0x19), (0x1DB8, .k1A, .one 0x1A), (0x1AA8, .k1B, .one 0x1B),
    (0x1AE8, .k1C, .one 0x1C), (0x1DD8, .k1D, .one 0x1D), (0x17D8, .k1E, .one 0x1E), (0x1BF8, .k1F, .one 0x1F)] rowIs = true := by decide

theorem test_key_rows_20 : List.all [
    (0x0008, .k20, .one 0x20), (0x0FF8, .k21, .one 0x21), (0x0AF8, .k22, .one 0x22), (0x0FA8, .k23, .one 0x23),
    (0x0ED8, .k24, .one 0x24), (0x16A8, .k25, .one 0x25), (0x15D8, .k26, .one 0x26), (0x0BF8, .k27, .one 0x27),
    (0x07D8, .k28, .one 0x28), (0x07B8, .k29, .one 0x29), (0x0B78, .k2A, .one 0x2A), (0x0EF8, .k2B, .one 0x2B),
    (0x03A8, .k2C, .one 0x2C), (0x01A8, .k2D, .one 0x2D), (0x02B8, .k2E, .one 0x2E), (0x0D78, .k2F, .one 0x2F)] rowIs = true := by decide

theorem test_key_rows_30 : List.all [
    (0x05B8, .k30, .one 0x30), (0x05E8, .k31, .one 0x31), (0x0768, .k32, .one 0x32), (0x07F8, .k33, .one 0x33),
    (0x0BB8, .k34, .one 0x34), (0x0AD8, .k35, .one 0x35), (0x0B58, .k36, .one 0x36), (0x0D68, .k37, .one 0x37),
    (0x0D58, .k38, .one 0x38), (0x0DB8, .k39, .one 0x39), (0x07A8, .k3A, .one 0x3A), (0x0DE8, .k3B, .one 0x3B),
    (0x0F68, .k3C, .one 0x3C), (0x02A8, .k3D, .one 0x3D), (0x0EB8, .k3E, .one 0x3E), (0x1578, .k3F, .one 0x3F)] rowIs = true := by decide

theorem test_key_rows_40 : List.all [
    (0x15E8, .k40, .one 0x40), (0x03E8, .k41, .one 0x41), (0x0758, .k42, .one 0x42), (0x0568, .k43, .one 0x43),
    (0x05A8, .k44, .one 0x44), (0x03B8, .k45, .one 0x45), (0x06D8, .k46, .one 0x46), (0x07E8, .k47, .one 0x47),
    (0x0AA8, .k48, .one 0x48), (0x03F8, .k49, .one 0x49), (0x0FE8, .k4A, .one 0x4A), (0x0BE8, .k4B, .one 0x4B),
    (0x06B8, .k4C, .one 0x4C), (0x05D8, .k4D, .one 0x4D), (0x06E8, .k4E, .one 0x4E), (0x0558, .k4F, .one 0x4F)] rowIs = true := by decide

theorem test_key_rows_50 : List.all [
    (0x06A8, .k50, .one 0x50), (0x0EE8, .k51, .one 0x51), (0x0578, .k52, .one 0x52), (0x0378, .k53, .one 0x53),
    (0x0368, .k54, .one 0x54), (0x0AB8, .k55, .one 0x55), (0x0DA8, .k56, .one 0x56), (0x0AE8, .k57, .one 0x57),
    (0x0BA8, .k58, .one 0x58), (0x0BD8, .k59, .one 0x59), (0x1568, .k5A, .one 0x5A), (0x0FB8, .k5B, .one 0x5B),
    (0x0F78, .k5C, .one 0x5C), (0x0FD8, .k5D, .one 0x5D), (0x15F8, .k5E, .one 0x5E), (0x0B68, .k5F, .one 0x5F)] rowIs = true := by decide

theorem test_key_rows_60 : List.all [
    (0x16F8, .k60, .one 0x60), (0x0058, .k61, .one 0x61), (0x02F8, .k62, .one 0x62), (0x0178, .k63, .one 0x63),
    (0x0168, .k64, .one 0x64), (0x0018, .k65, .one 0x65), (0x01E8, .k66, .one 0x66), (0x02D8, .k67, .one 0x67),
    (0x0158, .k68, .one 0x68), (0x0068, .k69, .one 0x69), (0x0F58, .k6A, .one 0x6A), (0x05F8, .k6B, .one 0x6B),
    (0x00D8, .k6C, .one 0x6C), (0x01D8, .k6D, .one 0x6D), (0x0078, .k6E, .one 0x6E), (0x0038, .k6F, .one 0x6F)] rowIs = true := by decide

theorem test_key_rows_70 : List.all [
    (0x01F8, .k70, .one 0x70), (0x0DF8, .k71, .one 0x71), (0x00A8, .k72, .one 0x72), (0x00B8, .k73, .one 0x73),
    (0x0028, .k74, .one 0x74), (0x01B8, .k75, .one 0x75), (0x03D8, .k76, .one 0x76), (0x0358, .k77, .one 0x77),
    (0x06F8, .k78, .one 0x78), (0x02E8, .k79, .one 0x79), (0x0EA8, .k7A, .one 0x7A), (0x15B8, .k7B, .one 0x7B),
    (0x0DD8, .k7C, .one 0x7C), (0x15A8, .k7D, .one 0x7D), (0x16B8, .k7E, .one 0x7E), (0x1DA8, .k7F, .one 0x7F)] rowIs = true := by decide

/-! ### WellFormed: each check refuses an ill-formed datum -/

theorem test_width_below_13_refused : legalWidth 12 = false ∧ legalWidth 13 = true := by decide
theorem test_rom_count_refused : Rom.countOk [⟨24, .one 0x65⟩] = false := by decide
theorem test_rom_duplicate_key_refused : Rom.distinctOk [⟨24, .one 0x65⟩, ⟨24, .one 0x66⟩] = false := by decide
theorem test_rom_zero_key_refused : Rom.nonzeroOk [⟨0, .one 0x65⟩] = false := by decide
theorem test_rom_unpadded_key_refused : Rom.paddedOk [⟨12, .one 0x65⟩] = false := by decide
theorem test_rom_long_key_refused : Rom.boundedOk [⟨8192, .one 0x65⟩] = false := by decide
theorem test_rom_no_longest_key_refused : Rom.longestOk [⟨24, .one 0x65⟩] = false := by decide
theorem test_rom_without_e_refused : Rom.letterEOk [⟨24, .one 0x66⟩] = false := by decide
theorem test_rom_without_line_ending_refused : Rom.lineEndingOk [⟨232, .one 0x0A⟩] = false := by decide
theorem test_rom_one_line_ending_refused : Rom.secondLineEndingOk [⟨232, crLf⟩] = false := by decide
theorem test_rom_without_printables_refused : Rom.coverageOk [⟨24, .one 0x65⟩] = false := by decide

/-- The default ROM with the symbols at the keys `ks` replaced by `/`. -/
def slashAt (ks : List Nat) : Rom := defaultRom.map fun e => if ks.contains e.key then ⟨e.key, .one 0x2F⟩ else e

/-- R44 item 9 leaves open that one printable label stands twice, in the place of another (91_not_in_source.md N3), and no
more; a control code's symbol is open (N2). The keys are those of the apostrophe, `!` and NUL. -/
theorem test_rom_doubled_label :
    (slashAt [3064]).legal = true ∧ (slashAt [3064, 4088]).coverageOk = false ∧
    (slashAt [5464]).legal = true := by decide +kernel

theorem test_rom_even_code_refused : codeOddOk 16 = false ∧ Rom.codesOk [⟨16, .one 0x65⟩] = false := by decide
theorem test_rom_three_zeros_in_code_refused :
    codeZerosOk 0b10001000 = false ∧ Rom.codesOk [⟨0b10001000, .one 0x65⟩] = false := by decide
theorem test_legal_needs_every_check : Rom.legal [⟨24, .one 0x65⟩] = false := by decide

/-! ### lookup_rom: 95_test_vectors.md 2.1 -/

/-- VL1 to VL6. -/
theorem test_lookup_found :
    romRead defaultRom (24 : Acc) = some (.one 0x65) ∧ romRead defaultRom (232 : Acc) = some (.two 0x0D 0x0A) ∧
    romRead defaultRom (248 : Acc) = some (.two 0x0D 0x0A) ∧ romRead defaultRom (8 : Acc) = some (.one 0x20) ∧
    romRead defaultRom (7640 : Acc) = some (.one 0x1D) ∧ romRead defaultRom (0 : Acc) = none := by decide

/-- VL7 to VL12. -/
theorem test_lookup_missed :
    romRead defaultRom (16 : Acc) = none ∧ romRead defaultRom (25 : Acc) = none ∧ romRead defaultRom (72 : Acc) = none ∧
    romRead defaultRom (7672 : Acc) = none ∧ romRead defaultRom (8216 : BitVec 14) = none ∧
    romRead defaultRom (12 : Acc) = none := by decide

/-! ### edge_detector and bit_accumulator: 95_test_vectors.md 2.2, 2.3 -/

/-- VE1 to VE4. -/
theorem test_edge_detector :
    armedNext true true false = true ∧ capture true true false = false ∧
    armedNext true true true = true ∧ capture true true true = false ∧
    armedNext true false false = false ∧ capture true false false = false ∧
    armedNext true false true = false ∧ capture true false true = true := by decide

/-- VA1 to VA8. -/
theorem test_accumulator_captures :
    accNext true false (0 : Acc) = 0 ∧ accNext true true (0 : Acc) = 1 ∧ accNext true false (0b11 : Acc) = 0b110 ∧
    accNext true false (0b110 : Acc) = 0b1100 ∧ accNext true false (0b1100 : Acc) = 0 ∧
    accNext true true (0b1100 : Acc) = 0b11001 ∧ accNext true false (0b1 : Acc) = 0b10 ∧
    accNext true false (0b100 : Acc) = 0 := by decide

/-- VA10 to VA15, and no capture. -/
theorem test_accumulator_at_the_top :
    accNext true true (0x80000000 : Acc) = 0 ∧ accNext true true (0x40000000 : Acc) = 0x80000001 ∧
    ovf (0x1000 : BitVec 13) = true ∧ accNext true false (0x1000 : BitVec 13) = 0 ∧
    eoc (shifted (0x1000 : Acc) false) = true ∧ accNext true true (0x0FFF : BitVec 13) = 0x1FFF ∧
    accNext true false (0b1000 : Acc) = 0 ∧ accNext false true (0b1011 : Acc) = 0b1011 := by decide

/-! ### The step function: 95_test_vectors.md 2.4 -/

/-- VD18, VD19, VD23: the same state at two widths. -/
theorem test_step_depends_on_the_width :
    (Regs.mk true (4097 : BitVec 13)).step defaultRom ⟨false, false⟩ = ⟨⟨false, 0⟩, none, .ovf⟩ ∧
    (Regs.mk true (4097 : Acc)).step defaultRom ⟨false, false⟩ = ⟨⟨false, 8194⟩, none, .shift⟩ ∧
    (Regs.mk true (0x1000 : BitVec 13)).step defaultRom ⟨true, false⟩ = ⟨⟨true, 0x1000⟩, none, .arm⟩ := by decide

/-- VD10 to VD16. -/
theorem test_step_ends_a_character :
    (Regs.mk true (0b1100 : BitVec 13)).step defaultRom ⟨false, false⟩ = ⟨⟨false, 0⟩, some (.one 0x65), .emit⟩ ∧
    (Regs.mk true (0b1110100 : BitVec 13)).step defaultRom ⟨false, false⟩ = ⟨⟨false, 0⟩, some (.two 0x0D 0x0A), .emit⟩ ∧
    (Regs.mk true (0b10111111100 : BitVec 13)).step defaultRom ⟨false, false⟩ = ⟨⟨false, 0⟩, some (.one 0x27), .emit⟩ ∧
    (Regs.mk true (0b100100 : BitVec 13)).step defaultRom ⟨false, false⟩ = ⟨⟨false, 0⟩, none, .drop⟩ ∧
    (Regs.mk true (0b1000 : BitVec 13)).step defaultRom ⟨false, false⟩ = ⟨⟨false, 0⟩, none, .drop⟩ := by decide

/-! ### exec, one row at a time -/

/-- A state with these registers, else as after reset. -/
def at' (armed : Bool) (acc : Acc) : State := { State.reset with armed := armed, acc := acc }

/-- The registers after a step, and the symbol on offer. -/
def seen (o : Host.Outcome State Fault Refusal) : Option (Bool × Acc × Option Symbol) :=
  match o with
  | .next t => some (t.armed, t.acc, t.offered)
  | .fault _ => none
  | .refused _ => none

/-- VD1, VD3. -/
theorem test_exec_arm :
    seen (exec (.arm false) (at' false 0)) = some (true, 0, none) ∧
    seen (exec (.arm true) (at' false 0b110)) = some (true, 0b110, none) := by decide

/-- VD4, VD22. -/
theorem test_exec_hold :
    seen (exec (.hold true) (at' false 0b110)) = some (false, 0b110, none) ∧
    seen (exec (.hold false) (at' false 0x80000000)) = some (false, 0x80000000, none) := by decide

/-- VD8, VD9. -/
theorem test_exec_shift :
    seen (exec (.shift false) (at' true 0b11)) = some (false, 0b110, none) ∧
    seen (exec (.shift true) (at' true 0b1100)) = some (false, 0b11001, none) := by decide

/-- VD10, VD11. -/
theorem test_exec_emit :
    seen (exec .emit (at' true 0b1100)) = some (false, 0, some (.one 0x65)) ∧
    seen (exec .emit (at' true 0b1110100)) = some (false, 0, some (.two 0x0D 0x0A)) := by decide

/-- VD15, VD16. -/
theorem test_exec_drop :
    seen (exec .drop (at' true 0b100100)) = some (false, 0, none) ∧
    seen (exec .drop (at' true 0b1000)) = some (false, 0, none) := by decide

/-- VD20, VD21. -/
theorem test_exec_ovf :
    seen (exec (.ovf false) (at' true 0x80000000)) = some (false, 0, none) ∧
    seen (exec (.ovf true) (at' true 0x80000001)) = some (false, 0, none) := by decide

/-- 70_reset_and_hazards.md R130, its example. -/
theorem test_exec_reset : seen (exec (.reset true) (at' true 0b1011)) = some (false, 0, none) := by decide

/-- 95_test_vectors.md 2.6, edge 16. -/
theorem test_exec_idle : seen (exec .idle (at' true 0b1100)) = some (true, 0b1100, none) := by decide

/-- VD13, VD12, VL5. -/
theorem test_exec_key_rows :
    seen (exec .k20 (at' true 0b100)) = some (false, 0, some (.one 0x20)) ∧
    seen (exec .k0D (at' true 0b1111100)) = some (false, 0, some (.two 0x0D 0x0A)) ∧
    seen (exec .k1D (at' true 3820)) = some (false, 0, some (.one 0x1D)) := by decide

/-- A row whose conditions do not hold processes its sample as 43_varicode_decoder.md R90 says (hand computation). -/
theorem test_exec_outside_the_conditions :
    seen (exec (.hold true) (at' true 0b11)) = some (false, 0b111, none) ∧
    seen (exec .k65 (at' true 0b100)) = some (false, 0, some (.one 0x20)) ∧
    seen (exec (.shift true) (at' false 0b11)) = some (false, 0b11, none) := by decide

/-! ### step: 95_test_vectors.md 2.6 -/

/-- Edges 5 and 6: a sample in a RESET cycle is lost. Edge 16: a low sample that is not enabled is not consumed. -/
theorem test_step_reset_and_idle :
    seen (step { at' true 0b11 with edges := [⟨true, true, true, false⟩] }) = some (false, 0, none) ∧
    seen (step { at' true 0b1100 with edges := [⟨false, false, false, false⟩] }) = some (true, 0b1100, none) ∧
    seen (step State.reset) = some (false, 0, none) := by decide

/-- Edges 17, 18 and 19. -/
theorem test_step_emit_then_quiet :
    seen (step { at' true 0b1100 with edges := [⟨false, true, false, false⟩] }) = some (false, 0, some (.one 0x65)) ∧
    seen (step { at' false 0 with symValid := true, symLen := 1, symChar0 := 0x65 }) = some (false, 0, none) ∧
    seen (step { at' false 0 with edges := [⟨false, true, false, false⟩] }) = some (false, 0, none) := by decide

/-- A table word placed after reset runs its row. -/
theorem test_placed_words :
    seen (step (State.reset.withFetchWord 8 2)) = some (true, 0, none) ∧
    seen (step (State.reset.withFetchWord 8 1)) = some (false, 0, none) ∧
    seen (step (State.reset.withFetchWord 32 0b11000)) = some (false, 0, some (.one 0x65)) ∧
    (State.reset.withFetchWord 32 0b11000).fetched = .k65 := by decide

/-! ### Stimulus: 30_encoding.md R52 -/

theorem test_key_bits :
    keyBits 24 = [true, true, false, false, false] ∧ keyBits 8 = [true, false, false, false] ∧
    keySamples 8 = [⟨true, false⟩, ⟨false, true⟩, ⟨true, false⟩, ⟨false, false⟩, ⟨true, false⟩, ⟨false, false⟩,
      ⟨true, false⟩, ⟨false, false⟩] := by decide

/-! ### Witnesses: values that meet a statement's hypotheses, at boundaries where it has a range -/

/-- StepRunsTheDecodedRow: a port word; a sample; a sample that is EMIT, with its key row. -/
theorem witness_StepRunsTheDecodedRow :
    decode .port resetConditions (portWord (State.edge { at' true 3 with edges := [⟨true, false, false, false⟩] })) = .ok (.reset false) ∧
    decode .sample (sampleConditions (at' false 3) ⟨true, false⟩) (sampleWord ⟨true, false⟩) = .ok (.arm false) ∧
    decode .sample (sampleConditions (at' true 12) ⟨false, false⟩) (sampleWord ⟨false, false⟩) = .ok .emit ∧
    decode .key resetConditions (keyWord (shifted (at' true 12).acc false)) = .ok .k65 ∧
    (sampleEdge ⟨false, false⟩).rst = false ∧ (sampleEdge ⟨false, false⟩).sampleEn = true := by decide

/-- PlacedTableWordRunsNext: the sample words' bounds, the least and the greatest key. -/
theorem witness_PlacedTableWordRunsNext :
    decodeTableWord 8 0 = some (.hold false) ∧ decodeTableWord 8 3 = some (.arm true) ∧
    decodeTableWord 8 8 = some .k20 ∧ decodeTableWord 32 7640 = some .k1D := by decide

theorem witness_RowsProcessTheirSampleAsTheStepFunction :
    formatOf .emit = .sample ∧ formatOf .k65 = .key := by decide

theorem witness_HoldChangesNothing : (at' false 0x80000000).armed = false := by decide

/-- Both disjuncts: the value 0; the greatest accumulator that does not overflow. -/
theorem witness_ShiftTakesInTheBit :
    (at' true 0).armed = true ∧ (at' true 0).acc.msb = false ∧ 2 * (at' true 0).acc.toNat + false.toNat = 0 ∧
    (at' true 0x7FFFFFFF).armed = true ∧ (at' true 0x7FFFFFFF).acc.msb = false ∧
    (2 * (at' true 0x7FFFFFFF).acc.toNat + true.toNat) % 8 ≠ 0 := by decide

/-- The least and the greatest key. -/
theorem witness_EmitDeliversTheSymbol :
    ⟨8, .one 0x20⟩ ∈ defaultRom ∧ (at' true 4).armed = true ∧ 2 * (at' true 4).acc.toNat = 8 ∧
    ⟨7640, .one 0x1D⟩ ∈ defaultRom ∧ 2 * (at' true 3820).acc.toNat = 7640 := by decide

theorem witness_RomRowDeliversItsSymbol :
    romEntryOf .k65 = some rom65 ∧ (at' true 12).armed = true ∧ 2 * (at' true 12).acc.toNat = rom65.key ∧
    romEntryOf .k0A = some rom0A ∧ 2 * (at' true 116).acc.toNat = rom0A.key := by decide

/-- A value with `00` inside, and the greatest one that does not overflow. -/
theorem witness_DropClearsSilently :
    (at' true 36).armed = true ∧ (at' true 36).acc.msb = false ∧ (at' true 36).acc ≠ 0 ∧
    (2 * (at' true 36).acc.toNat) % 8 = 0 ∧ (∀ e ∈ defaultRom, e.key ≠ 2 * (at' true 36).acc.toNat) ∧
    (at' true 0x7FFFFFFC).acc.msb = false ∧ (2 * (at' true 0x7FFFFFFC).acc.toNat) % 8 = 0 ∧
    (∀ e ∈ defaultRom, e.key ≠ 2 * (at' true 0x7FFFFFFC).acc.toNat) := by decide

theorem witness_OverflowClearsSilently :
    (at' true 0x80000000).armed = true ∧ (at' true 0x80000000).acc.msb = true ∧
    (at' true 0xFFFFFFFF).acc.msb = true := by decide

theorem witness_ResetClearsWhateverIsPresented :
    State.edges { at' true 11 with edges := [⟨true, true, true, false⟩] } = ⟨true, true, true, false⟩ :: [] ∧
    (Edge.mk true true true false).rst = true := by decide

theorem witness_IdleKeepsTheRegisters :
    (∀ p ∈ (at' true 11).edges, p.rst = false ∧ p.sampleEn = false) ∧
    (∀ p ∈ State.edges { at' true 11 with edges := [⟨false, false, true, true⟩, idleEdge] },
      p.rst = false ∧ p.sampleEn = false) := by decide

theorem witness_ArmedFollowsTheClockLine :
    (State.edge { at' true 3 with edges := [sampleEdge ⟨true, false⟩] }).rst = false ∧
    (State.edge { at' true 3 with edges := [sampleEdge ⟨true, false⟩] }).sampleEn = true := by decide

/-- Both sides of the overflow test at the least legal width. -/
theorem witness_ShiftLosesNothingUnlessOverflow :
    legalWidth 13 = true ∧ ovf (0x0FFF : BitVec 13) = false ∧ ovf (0x1000 : BitVec 13) = true ∧
    2 ^ 13 ≤ 2 * (0x1000 : BitVec 13).toNat + false.toNat := by decide

theorem witness_EndOfCharacterExactly :
    legalWidth 13 = true ∧ eoc (8 : BitVec 13) = true ∧ eoc (shifted (4 : BitVec 13) false) = true := by decide

/-- Each disjunct of the values that are not found, and a key that is. -/
theorem witness_RomReadIsExactEquality :
    legalWidth 14 = true ∧ defaultRom.legal = true ∧ (0 : BitVec 14) = 0 ∧ (25 : BitVec 14).toNat % 8 ≠ 0 ∧
    2 ^ 13 ≤ (8216 : BitVec 14).toNat ∧ romRead defaultRom (24 : BitVec 14) = some (.one 0x65) := by decide

theorem witness_DefaultRomIsLegal : (0x00 : BitVec 7) ≠ 0x0A ∧ (0x7F : BitVec 7) ≠ 0x0D := by decide

theorem witness_KeyRowsAreTheRom :
    romRead defaultRom (24 : Word) = some (.one 0x65) ∧ decodeKey 24 = .ok .k65 ∧ romEntryOf .k65 = some rom65 := by decide

/-- The least legal width and the default one, with the longest key of the default ROM. -/
theorem witness_EveryKeyDecodes :
    legalWidth 13 = true ∧ legalWidth 32 = true ∧ defaultRom.legal = true ∧ rom1D ∈ defaultRom := by decide

/-- Idle for ever: the clock line high and low by turns, the data line low. -/
def endlessIdle (n : Nat) : Sample := ⟨n % 2 == 0, false⟩

theorem endlessIdle_acc (n : Nat) : ((Regs.start 13).stateAt defaultRom endlessIdle n).acc = 0 := by
  induction n with
  | zero => rfl
  | succ n ih =>
    have hv : shifted (0 : BitVec 13) (endlessIdle n).data = 0 := (by decide : shifted (0 : BitVec 13) false = 0)
    rw [Regs.stateAt_succ, Regs.resultAt]
    rcases Regs.step_cases defaultRom ((Regs.start 13).stateAt defaultRom endlessIdle n) (endlessIdle n) with
      ⟨-, h⟩ | ⟨-, -, h⟩ | ⟨-, -, -, h⟩ | ⟨-, -, -, -, h⟩ | ⟨-, -, -, -, y, -, h⟩ | ⟨-, -, -, -, -, h⟩ <;> rw [h] <;>
      simp only [ih, hv]

/-- A finite run with an OVF and a SHIFT, an infinite one that captures for ever, and a state that overflows. -/
theorem witness_NoEndOfCharacterNoSymbol :
    (∀ ys x zs, [⟨false, true⟩, ⟨true, false⟩, ⟨false, true⟩] = ys ++ x :: zs → x.clock = false →
      ((Regs.mk true (0x1000 : BitVec 13)).after defaultRom ys).armed = true →
      ovf ((Regs.mk true (0x1000 : BitVec 13)).after defaultRom ys).acc = false →
      eoc (shifted ((Regs.mk true (0x1000 : BitVec 13)).after defaultRom ys).acc x.data) = false) ∧
    (∀ n, (endlessIdle n).clock = false → ((Regs.start 13).stateAt defaultRom endlessIdle n).armed = true →
      ovf ((Regs.start 13).stateAt defaultRom endlessIdle n).acc = false →
      eoc (shifted ((Regs.start 13).stateAt defaultRom endlessIdle n).acc (endlessIdle n).data) = false) ∧
    ((endlessIdle 1).clock = false ∧ ((Regs.start 13).stateAt defaultRom endlessIdle 1).armed = true) ∧
    (Regs.mk true (0x1000 : BitVec 13)).armed = true ∧ ovf (Regs.mk true (0x1000 : BitVec 13)).acc = true := by
  refine ⟨?_, fun n _ _ _ => ?_, by decide, by decide⟩
  · intro ys x zs h
    rcases ys with _ | ⟨a, _ | ⟨b, _ | ⟨c, _ | ⟨d, ys⟩⟩⟩⟩ <;>
      simp only [List.nil_append, List.cons_append, List.cons.injEq] at h <;> try simp at h
    · obtain ⟨rfl, -⟩ := h; decide
    · obtain ⟨rfl, rfl, -⟩ := h; decide
    · obtain ⟨rfl, rfl, rfl, -⟩ := h; decide
  · rw [endlessIdle_acc]; exact (by decide : eoc (shifted (0 : BitVec 13) false) = false)

/-- Each of the three outcomes. -/
theorem witness_EndOfCharacterLeavesTheStartState :
    ((Regs.mk true (12 : Acc)).step defaultRom ⟨false, false⟩).outcome = .emit ∧
    ((Regs.mk true (36 : Acc)).step defaultRom ⟨false, false⟩).outcome = .drop ∧
    ((Regs.mk true (0x80000000 : Acc)).step defaultRom ⟨false, false⟩).outcome = .ovf := by decide

theorem witness_ThreeZeroBitsResynchronise : legalWidth 13 = true ∧ legalWidth 64 = true := by decide

theorem witness_EmissionsAreEightStepsApart : legalWidth 13 = true ∧ ((keySamples 8).take 7).length < 8 := by decide

/-- A burst of ones and one with pairs of zeros, at the least legal width. -/
def bursts13 : List (List Bool) :=
  [List.replicate 13 true,
   [true, false, false, true, false, false, true, true, false, true, false, false, true]]

theorem witness_UnterminatedBurstOverflowsAfterWBits :
    legalWidth 13 = true ∧ ∀ bs ∈ bursts13, bs.length = 13 ∧ bs.head? = some true ∧
      ∀ n, bitsValue (bs.take n) = 0 ∨ bitsValue (bs.take n) % 8 ≠ 0 := by
  have hb : ∀ bs ∈ bursts13, bs.length = 13 ∧ bs.head? = some true ∧
      ∀ n ≤ 13, bitsValue (bs.take n) = 0 ∨ bitsValue (bs.take n) % 8 ≠ 0 := by decide
  refine ⟨by decide, fun bs h => ⟨(hb bs h).1, (hb bs h).2.1, fun n => ?_⟩⟩
  rcases Nat.le_total n 13 with hn | hn
  · exact (hb bs h).2.2 n hn
  · rw [List.take_of_length_le ((hb bs h).1.trans_le hn), ← List.take_of_length_le (hb bs h).1.le]
    exact (hb bs h).2.2 13 le_rfl

/-- The key of "e" from 13 to 32 bits. -/
theorem witness_WidthMattersOnlyWithOverflow :
    legalWidth 13 = true ∧ 13 ≤ 32 ∧ StepOutcome.ovf ∉ (Regs.start 13).outcomes defaultRom (keySamples 24) := by decide

theorem witness_TwoZerosDoNotSeparate : legalWidth 13 = true := by decide

theorem witness_MachineObservesTheRun :
    State.edges { at' true 12 with edges := [sampleEdge ⟨false, false⟩, sampleEdge ⟨true, true⟩] } =
      [⟨false, false⟩, ⟨true, true⟩].map sampleEdge := by decide

/-- `key(8)` again and again, for ever (43_varicode_decoder.md R105: a space in every eight samples). -/
def endlessSpaces (n : Nat) : Sample := ((keySamples 8)[n % 8]?).getD ⟨true, false⟩

/-- Two places of one observation, and places in their order. -/
theorem witness_InfiniteRunExtendsItsFiniteRuns :
    8 ≤ 16 ∧ (Regs.start 13).ObservesAt defaultRom endlessSpaces 0 (.one 0x20) ∧
    (Regs.start 13).ObservesAt defaultRom endlessSpaces 1 (.one 0x20) :=
  ⟨by decide, ⟨8, by decide⟩, ⟨16, by decide⟩⟩

theorem witness_MachineObservesTheInfiniteRun :
    State.reset.ObservesAt (fun k => sampleEdge (endlessSpaces k)) 1 (.one 0x20) ∧
    State.reset.regs.ObservesAt defaultRom endlessSpaces 1 (.one 0x20) :=
  ⟨⟨16, by rfl⟩, ⟨16, by decide⟩⟩

/-- A state that offers nothing and one that offers "e". -/
theorem witness_StepKeepsTheInvariant :
    State.Inv (at' true 0b11001) ∧
    State.Inv { at' false 0 with symValid := true, symLen := 1, symChar0 := 0x65 } := by decide

/-- The second disjunct is met by a SHIFT, the first by an ARM. -/
theorem witness_EveryWriteOfAccMeetsInv :
    seen (step { at' true 3 with edges := [sampleEdge ⟨false, true⟩] }) = some (false, 7, none) ∧
    seen (step { at' false 8 with edges := [sampleEdge ⟨true, true⟩] }) = some (true, 8, none) := by decide

/-- A step that offers "e", and the step after it. -/
theorem witness_SymValidIsAOneCyclePulse :
    ∃ t u, step { at' true 12 with edges := [sampleEdge ⟨false, false⟩] } = .next t ∧ step t = .next u ∧
      t.symValid = true := ⟨_, _, rfl, rfl, rfl⟩

/-- Each of the five disjuncts. -/
theorem witness_DataIsReadOnlyInACapture :
    (Edge.mk true true false false).rst = true ∧ (Edge.mk false false false false).sampleEn = false ∧
    (Edge.mk false true true false).clockIn = true ∧ (at' false 3).armed = false ∧
    (at' true 0x80000000).acc.msb = true := by decide

/-- Two states that differ in the output registers and in the free values to come. -/
theorem witness_OutputRegistersAreWriteOnly :
    ∃ t t', (at' true 3).armed = State.armed { at' true 3 with symChar0 := 7, drawn := 5 } ∧
      at' true 3 ≠ { at' true 3 with symChar0 := 7, drawn := 5 } ∧
      step (at' true 3) = .next t ∧ step { at' true 3 with symChar0 := 7, drawn := 5 } = .next t' :=
  ⟨_, _, rfl, by decide, rfl, rfl⟩

end Sys2Proof.Tests
end

/-! ## Every clock edge is the update of the ports

Each row processes its sample as the step function does, in every state; so an edge, whichever row it selects,
is `State.clocked` (43_varicode_decoder.md R100). -/

namespace Sys2Proof.Machine

section
variable (s : State) (b : Bool)

/-! ### What a sample does, one equation per branch of the step function (43_varicode_decoder.md R90) -/

@[simp] theorem State.sampled_regs (smp : Sample) : (s.sampled smp).regs = (s.regs.step defaultRom smp).regs := rfl

@[simp] theorem State.sampled_offered (smp : Sample) :
    (s.sampled smp).offered = (s.regs.step defaultRom smp).emitted := s.commit_offered _ _ _

theorem State.sampled_low_of_not_armed (ha : s.armed = false) :
    s.sampled ⟨false, b⟩ = s.commit false s.acc none := by
  simp [State.sampled, Regs.step, ha]

theorem State.sampled_low_of_ovf (ha : s.armed = true) (ho : Machine.ovf s.acc = true) :
    s.sampled ⟨false, b⟩ = s.commit false 0 none := by
  simp [State.sampled, Regs.step, ha, ho]

theorem State.sampled_low_of_not_eoc (ha : s.armed = true) (ho : Machine.ovf s.acc = false)
    (he : eoc (shifted s.acc b) = false) :
    s.sampled ⟨false, b⟩ = s.commit false (shifted s.acc b) none := by
  simp [State.sampled, Regs.step, ha, ho, he]

/-- The end of a character, found or not: what is emitted is what the lookup reads. -/
theorem State.sampled_low_of_eoc (ha : s.armed = true) (ho : Machine.ovf s.acc = false)
    (he : eoc (shifted s.acc b) = true) :
    s.sampled ⟨false, b⟩ = s.commit false 0 (romRead defaultRom (shifted s.acc b)) := by
  cases hr : romRead defaultRom (shifted s.acc b) <;> simp [State.sampled, Regs.step, ha, ho, he, hr]

/-! ### Each row in every state (log 8) -/

theorem exec_arm : exec (.arm b) s = .next (s.sampled ⟨true, b⟩) := rfl

/-- A row whose own effect, where its condition holds, is the processing of a sample, processes it in every state. -/
theorem ite_next_eq {c : Bool} {t u : State} (h : c = true → t = u) :
    (if c then .next t else .next u : Host.Outcome State Fault Refusal) = .next u := by
  cases c with
  | false => rfl
  | true => rw [if_pos rfl, h rfl]

theorem exec_hold : exec (.hold b) s = .next (s.sampled ⟨false, b⟩) :=
  ite_next_eq fun h => by
    have ha : s.armed = false := by simpa using h
    rw [s.sampled_low_of_not_armed b ha, ha]

theorem exec_shift : exec (.shift b) s = .next (s.sampled ⟨false, b⟩) :=
  ite_next_eq fun h => by
    obtain ⟨⟨ha, ho⟩, he⟩ : (s.armed = true ∧ Machine.ovf s.acc = false) ∧ eoc (shifted s.acc b) = false := by
      simpa [capture] using h
    exact (s.sampled_low_of_not_eoc b ha ho he).symm

theorem exec_ovf : exec (.ovf b) s = .next (s.sampled ⟨false, b⟩) :=
  ite_next_eq fun h => by
    obtain ⟨ha, ho⟩ : s.armed = true ∧ Machine.ovf s.acc = true := by simpa [capture] using h
    exact (s.sampled_low_of_ovf b ha ho).symm

theorem exec_emit : exec .emit s = .next (s.sampled ⟨false, false⟩) :=
  ite_next_eq fun h => by
    obtain ⟨⟨⟨ha, ho⟩, he⟩, -⟩ : ((s.armed = true ∧ Machine.ovf s.acc = false) ∧
        eoc (shifted s.acc false) = true) ∧ hit defaultRom (shifted s.acc false) = true := by
      simpa [capture] using h
    exact (s.sampled_low_of_eoc false ha ho he).symm

theorem exec_drop : exec .drop s = .next (s.sampled ⟨false, false⟩) :=
  ite_next_eq fun h => by
    obtain ⟨⟨⟨ha, ho⟩, he⟩, hm⟩ : ((s.armed = true ∧ Machine.ovf s.acc = false) ∧
        eoc (shifted s.acc false) = true) ∧ romRead defaultRom (shifted s.acc false) = none := by
      simpa [capture, hit] using h
    rw [s.sampled_low_of_eoc false ha ho he, hm, State.absorb_eq]

/-- The row of an entry of the default ROM: where its key is complete, the lookup reads that very entry. -/
theorem execRomRow_of_mem {e : RomEntry} (he : e ∈ defaultRom) :
    execRomRow e s = .next (s.sampled ⟨false, false⟩) := by
  rw [execRomRow_eq]
  split
  case isTrue h =>
    obtain ⟨ha, ho, hc, hk⟩ := h
    rw [s.sampled_low_of_eoc false ha ho hc, romRead_of_mem defaultRom_nodup he hk.symm]
  case isFalse => rfl

theorem exec_of_format_key {i : Instr} (hi : formatOf i = .key) : exec i s = .next (s.sampled ⟨false, false⟩) := by
  obtain ⟨e, he⟩ := (exists_romEntryOf_iff i).2 hi
  rw [exec_of_romEntryOf he, execRomRow_of_mem s (romEntryOf_mem he)]

/-- The row behind a hit is a row of format K, and EMIT itself where there is none. -/
theorem exec_romRow (v : Acc) : exec (romRow v) s = .next (s.sampled ⟨false, false⟩) := by
  unfold romRow
  split
  · rename_i i hd
    exact exec_of_format_key s (keyTable_encode _ (mem_of_decodeKey hd)).2
  · exact exec_emit s

/-! ### The row an edge selects -/

/-- The operation map selects a row of the sample presented, whatever the state columns (30_encoding.md R53). -/
theorem exec_selectSample (smp : Sample) (c : Conditions) : exec (selectSample smp c) s = .next (s.sampled smp) := by
  obtain ⟨clock, data⟩ := smp
  cases clock with
  | true => exact exec_arm s data
  | false =>
    simp only [selectSample, Bool.false_eq_true, if_false]
    split
    · exact exec_hold s data
    split
    · exact exec_ovf s data
    split
    · exact exec_shift s data
    · rename_i hend
      obtain rfl : data = false := by
        cases data with
        | false => rfl
        | true => simp at hend
      split
      · exact exec_emit s
      · exact exec_drop s

/-- The row selected in one state processes the sample in every other: rows differ only in the columns they ask for. -/
theorem exec_sampleRow (s₀ : State) (smp : Sample) : exec (sampleRow s₀ smp) s = .next (s.sampled smp) := by
  obtain ⟨clock, data⟩ := smp
  simp only [sampleRow]
  split
  case isTrue h =>
    obtain ⟨⟨-, rfl⟩, rfl⟩ : (_ ∧ clock = false) ∧ data = false := by simpa using h
    exact exec_romRow s _
  case isFalse => exact exec_selectSample s _ _

/-- One step of the machine is one clock edge (43_varicode_decoder.md R100). -/
theorem step_eq_clocked : step s = .next (s.consumeEdge.clocked s.edge) := by
  unfold step State.fetched State.clocked
  split
  · rfl
  cases s.edge.sampleEn with
  | false => rfl
  | true => exact exec_sampleRow _ s _

end

end Sys2Proof.Machine

/-! ## Clock edges presented as a list -/

namespace Sys2Proof.Machine

/-- The host presents `ps`, in order, before whatever else it was to present. -/
def State.presentAll (s : State) (ps : List Edge) : State := { s with edges := ps ++ s.edges }

/-- What the clock edges `ps` leave, one `State.clocked` each. `run_presentAll` and `State.afterEdges_eq_clockedAll`
tie it to the machine's runs. -/
def State.clockedAll (s : State) (ps : List Edge) : State := ps.foldl State.clocked s

/-- The symbols offered after each of the clock edges `ps`, in order. `State.observe_presentAll` and
`State.symbolsTo_eq_offeredAll` tie it to the sink's observation. -/
def State.offeredAll (s : State) : List Edge → List Symbol
  | [] => []
  | p :: ps => (s.clocked p).offered.toList ++ (s.clocked p).offeredAll ps

section
variable (s : State) (p : Edge) (ps qs : List Edge)

@[simp] theorem State.presentAll_nil : s.presentAll [] = s := rfl
@[simp] theorem State.presentAll_cons : s.presentAll (p :: ps) = (s.presentAll ps).present p := rfl
@[simp] theorem State.presentAll_offered : (s.presentAll ps).offered = s.offered := rfl

@[simp] theorem State.clockedAll_nil : s.clockedAll [] = s := rfl
@[simp] theorem State.clockedAll_cons : s.clockedAll (p :: ps) = (s.clocked p).clockedAll ps := rfl

theorem State.clockedAll_append : s.clockedAll (ps ++ qs) = (s.clockedAll ps).clockedAll qs :=
  List.foldl_append

theorem State.clockedAll_edges : (s.clockedAll ps).edges = s.edges := by
  induction ps generalizing s with
  | nil => rfl
  | cons p ps ih => rw [State.clockedAll_cons, ih, State.clocked_edges]

@[simp] theorem State.offeredAll_nil : s.offeredAll [] = [] := rfl
@[simp] theorem State.offeredAll_cons :
    s.offeredAll (p :: ps) = (s.clocked p).offered.toList ++ (s.clocked p).offeredAll ps := rfl

theorem State.offeredAll_append :
    s.offeredAll (ps ++ qs) = s.offeredAll ps ++ (s.clockedAll ps).offeredAll qs := by
  induction ps generalizing s with
  | nil => rfl
  | cons p ps ih => simp [ih]

/-- An edge does not read the inputs to come. -/
theorem State.presentAll_clocked : (s.presentAll ps).clocked p = (s.clocked p).presentAll ps := by
  unfold State.clocked
  split
  · rfl
  split <;> rfl

/-! ### The machine's runs over such a list -/

theorem step_present : step (s.present p) = .next (s.clocked p) := by
  rw [step_eq_clocked, State.present_consumeEdge, State.present_edge]

theorem step_presentAll_cons : step (s.presentAll (p :: ps)) = .next ((s.clocked p).presentAll ps) := by
  rw [State.presentAll_cons, step_present, State.presentAll_clocked]

theorem State.observe_succ {s t : State} (h : step s = .next t) (n : Nat) :
    s.observe (n + 1) = t.offered.toList ++ t.observe n := by
  rw [State.observe, h]

theorem run_presentAll : Sys2Proof.core.run ps.length (s.presentAll ps) = .next (s.clockedAll ps) := by
  induction ps generalizing s with
  | nil => rfl
  | cons p ps ih =>
    rw [List.length_cons, core_run_succ (step_presentAll_cons s p ps), ih, State.clockedAll_cons]

theorem State.observe_presentAll : (s.presentAll ps).observe ps.length = s.offeredAll ps := by
  induction ps generalizing s with
  | nil => rfl
  | cons p ps ih =>
    rw [List.length_cons, State.observe_succ (step_presentAll_cons s p ps), ih, State.presentAll_offered,
      State.offeredAll_cons]

end

/-! ### The machine's infinite runs: the first `n` edges as a list -/

section
variable (s : State) (ps : Nat → Edge) (n : Nat)

theorem State.afterEdges_eq_clockedAll : s.afterEdges ps n = .next (s.clockedAll ((List.range n).map ps)) := by
  induction n with
  | zero => rfl
  | succ n ih =>
    rw [State.afterEdges_succ ih, step_present, List.range_succ, List.map_append, State.clockedAll_append]
    rfl

theorem State.symbolsTo_succ_of_next {t : State} (h : s.afterEdges ps (n + 1) = .next t) :
    s.symbolsTo ps (n + 1) = s.symbolsTo ps n ++ t.offered.toList := by
  rw [State.symbolsTo, h]

theorem State.symbolsTo_eq_offeredAll : s.symbolsTo ps n = s.offeredAll ((List.range n).map ps) := by
  induction n with
  | zero => rfl
  | succ n ih =>
    rw [s.symbolsTo_succ_of_next ps n (s.afterEdges_eq_clockedAll ps (n + 1)), ih]
    simp [List.range_succ, State.offeredAll_append, State.clockedAll_append]

end

/-! ### A sample at every edge: the run of the step function (00_scope.md R8) -/

section
variable (s : State) (xs : List Sample)

@[simp] theorem State.clocked_sampleEdge (x : Sample) : s.clocked (sampleEdge x) = s.sampled x := rfl

theorem State.clockedAll_samples_regs : (s.clockedAll (xs.map sampleEdge)).regs = s.regs.after defaultRom xs := by
  induction xs generalizing s with
  | nil => rfl
  | cons x xs ih => simp [Regs.after, ih]

theorem State.offeredAll_samples : s.offeredAll (xs.map sampleEdge) = s.regs.emissions defaultRom xs := by
  induction xs generalizing s with
  | nil => rfl
  | cons x xs ih => simp [Regs.emissions, ih]

end

/-! ## Infinite runs of the step function and their finite runs -/

section
variable {w : Nat} (rom : Rom) (r : Regs w) (xs : Nat → Sample)

theorem Regs.stateAt_eq_after (n : Nat) : r.stateAt rom xs n = r.after rom ((List.range n).map xs) := by
  induction n with
  | zero => rfl
  | succ n ih =>
    rw [Regs.stateAt_succ, Regs.resultAt, ih, List.range_succ, List.map_append, Regs.after_append]
    rfl

theorem Regs.symbolsTo_eq_emissions (n : Nat) :
    r.symbolsTo rom xs n = r.emissions rom ((List.range n).map xs) := by
  induction n with
  | zero => rfl
  | succ n ih =>
    rw [Regs.symbolsTo_succ, Regs.resultAt, ih, Regs.stateAt_eq_after]
    simp [List.range_succ, Regs.emissions_append, Regs.emissions]

theorem Regs.map_outcome_resultAt (n : Nat) :
    (List.range n).map (fun k => (r.resultAt rom xs k).outcome) = r.outcomes rom ((List.range n).map xs) := by
  induction n with
  | zero => rfl
  | succ n ih =>
    rw [List.range_succ, List.map_append, List.map_append, Regs.outcomes_append, ih, ← Regs.stateAt_eq_after]
    rfl

theorem Regs.symbolsTo_mono {m n : Nat} (h : m ≤ n) : r.symbolsTo rom xs m <+: r.symbolsTo rom xs n := by
  induction n, h using Nat.le_induction with
  | base => exact ⟨[], List.append_nil _⟩
  | succ n _ ih => exact ih.trans ⟨_, rfl⟩

/-- A place once observed is the same in every longer observation. -/
theorem Regs.symbolsTo_getElem?_of_le {m n k : Nat} {y : Symbol} (h : m ≤ n)
    (hy : (r.symbolsTo rom xs m)[k]? = some y) : (r.symbolsTo rom xs n)[k]? = some y := by
  obtain ⟨later, hl⟩ := r.symbolsTo_mono rom xs h
  obtain ⟨hk, -⟩ := List.getElem?_eq_some_iff.1 hy
  rw [← hl, List.getElem?_append_left hk, hy]

theorem Regs.observesAt_unique {k : Nat} {y z : Symbol} (hy : r.ObservesAt rom xs k y)
    (hz : r.ObservesAt rom xs k z) : y = z := by
  obtain ⟨m, hm⟩ := hy
  obtain ⟨n, hn⟩ := hz
  have hm' := r.symbolsTo_getElem?_of_le rom xs (le_max_left m n) hm
  have hn' := r.symbolsTo_getElem?_of_le rom xs (le_max_right m n) hn
  exact Option.some.inj (hm'.symm.trans hn')

end

/-- The sink's observation up to an edge is what the step function has emitted up to that sample. -/
theorem State.symbolsTo_samples (s : State) (xs : Nat → Sample) (n : Nat) :
    s.symbolsTo (fun k => sampleEdge (xs k)) n = s.regs.symbolsTo defaultRom xs n := by
  rw [State.symbolsTo_eq_offeredAll, Regs.symbolsTo_eq_emissions, ← State.offeredAll_samples, List.map_map]
  rfl

/-! ## The statements of 00_scope.md -/

/-- Settles O34: the list of samples is presented to the same state with nothing more to come. -/
theorem machineObservesTheRun : Obligations.MachineObservesTheRun := by
  intro xs s hs
  obtain ⟨s₀, h₀, rfl⟩ : ∃ s₀ : State, s₀.edges = [] ∧ s = s₀.presentAll (xs.map sampleEdge) :=
    ⟨{ s with edges := [] }, rfl, by simp [State.presentAll, ← hs]⟩
  have hobs := s₀.observe_presentAll (xs.map sampleEdge)
  have hrun := run_presentAll s₀ (xs.map sampleEdge)
  rw [List.length_map] at hobs hrun
  refine ⟨hobs.trans (s₀.offeredAll_samples xs), _, hrun, s₀.clockedAll_samples_regs xs, ?_⟩
  rw [State.clockedAll_edges, h₀]

/-- Settles O42, by induction on the number of samples for the runs, and by the longer of two
observations for their places. -/
theorem infiniteRunExtendsItsFiniteRuns : Obligations.InfiniteRunExtendsItsFiniteRuns := fun _ rom r xs =>
  ⟨fun n => ⟨r.stateAt_eq_after rom xs n, r.symbolsTo_eq_emissions rom xs n, r.map_outcome_resultAt rom xs n⟩,
    fun _ _ h => r.symbolsTo_mono rom xs h, fun _ _ _ => r.observesAt_unique rom xs⟩

/-- Settles O43: the first `n` edges of the infinite sequence are a list, and over a list of samples the machine
is the fold of the step function. -/
theorem machineObservesTheInfiniteRun : Obligations.MachineObservesTheInfiniteRun := by
  intro s
  refine ⟨fun ps n => ⟨⟨_, s.afterEdges_eq_clockedAll ps n, State.clockedAll_edges _ _⟩, ?_⟩,
    fun xs => ⟨fun n => ?_, ?_⟩⟩
  · have hobs := s.observe_presentAll ((List.range n).map ps)
    rw [List.length_map, List.length_range] at hobs
    exact (s.symbolsTo_eq_offeredAll ps n).trans hobs.symm
  · refine ⟨_, s.afterEdges_eq_clockedAll _ n, ?_⟩
    rw [Regs.stateAt_eq_after, ← State.clockedAll_samples_regs, List.map_map]
    rfl
  · intro k y
    simp only [State.ObservesAt, Regs.ObservesAt, State.symbolsTo_samples]

end Sys2Proof.Machine

/-! ## What a clock edge writes, and the invariant of the state (10_state.md R13, R18) -/

namespace Sys2Proof.Machine

/-! ### The inside of the accumulator -/

section
variable {w : Nat}

theorem noTripleZero_zero : NoTripleZero (0 : BitVec w) := fun _ _ => .inl BitVec.zero_ushiftRight

/-- Without overflow the shift loses no bit: what stands above the new bit is the old value. -/
theorem shifted_ushiftRight_one {acc : BitVec w} (ho : Machine.ovf acc = false) (b : Bool) :
    shifted acc b >>> 1 = acc := by
  rcases Nat.eq_zero_or_pos w with rfl | hw
  · exact Subsingleton.elim _ _
  have hlt : 2 * acc.toNat < 2 ^ w := BitVec.msb_eq_false_iff_two_mul_lt.1 ho
  have heven : 2 ^ w % 2 = 0 := Nat.mod_eq_zero_of_dvd (dvd_pow_self 2 hw.ne')
  have hb : b.toNat ≤ 1 := b.toNat_le
  apply BitVec.eq_of_toNat_eq
  rw [BitVec.toNat_ushiftRight, shifted_toNat hw, Nat.mod_eq_of_lt (by omega), Nat.shiftRight_eq_div_pow]
  omega

/-- A SHIFT step keeps the strong form of R13: a cut of the new value is the cut at its end, where the
end-of-character test failed, or a cut of the old value. -/
theorem noTripleZero_shifted {acc : BitVec w} {b : Bool} (h : NoTripleZero acc) (ho : Machine.ovf acc = false)
    (he : eoc (shifted acc b) = false) : NoTripleZero (shifted acc b) := by
  intro i hi
  cases i with
  | zero => simpa using accInv_of_not_eoc he
  | succ j =>
    rw [Nat.add_comm, BitVec.shiftRight_add, shifted_ushiftRight_one ho]
    exact h j (Nat.lt_of_succ_lt hi)

end

/-! ### The writes of an edge -/

theorem eq_clocked_of_step {s t : State} (h : step s = .next t) : t = s.consumeEdge.clocked s.edge := by
  rw [step_eq_clocked] at h
  exact (Host.Outcome.next.inj h).symm

/-- What an edge writes is chosen by the two registers and the inputs alone: `commit` is given the same values in
every state with these registers. -/
theorem State.exists_clocked_eq_commit (r : Regs Config.W) (p : Edge) :
    ∃ a c e, ∀ s : State, s.regs = r → s.clocked p = s.commit a c e := by
  unfold State.clocked
  split
  · exact ⟨false, 0, none, fun _ _ => rfl⟩
  split
  · rcases hr : r.step defaultRom (edgeSample p) with ⟨⟨a, c⟩, e, _⟩
    refine ⟨a, c, e, ?_⟩
    rintro s rfl
    rw [State.sampled, hr]
  · refine ⟨r.armed, r.acc, none, ?_⟩
    rintro s rfl
    rfl

/-- What an edge can write to `acc` and to the output registers: `acc` is kept, cleared or shifted, and a symbol
goes out only over cleared registers. -/
theorem State.clocked_writes (s : State) (p : Edge) :
    (∃ a, s.clocked p = s.commit a s.acc none) ∨
    s.clocked p = s.commit false 0 none ∨
    (∃ b, Machine.ovf s.acc = false ∧ eoc (shifted s.acc b) = false ∧
      s.clocked p = s.commit false (shifted s.acc b) none) ∨
    ∃ e ∈ defaultRom, s.clocked p = s.commit false 0 (some e.sym) := by
  obtain ⟨-, hreset⟩ | ⟨-, -, hsample⟩ | ⟨-, -, hidle⟩ := s.clocked_cases p
  · exact .inr (.inl hreset)
  · rw [hsample, State.sampled]
    obtain ⟨-, harm⟩ | ⟨-, -, hhold⟩ | ⟨-, -, -, hovf⟩ | ⟨-, -, ho, he, hshift⟩ | ⟨-, -, -, -, y, hy, hemit⟩ |
      ⟨-, -, -, -, -, hdrop⟩ := s.regs.step_cases defaultRom (edgeSample p)
    · exact .inl ⟨true, by rw [harm, State.regs_acc]⟩
    · exact .inl ⟨false, by rw [hhold, State.regs_acc]⟩
    · exact .inr (.inl (by rw [hovf]))
    · exact .inr (.inr (.inl ⟨_, ho, he, by rw [hshift, State.regs_acc]⟩))
    · obtain ⟨e, hmem, -, rfl⟩ := romRead_some hy
      exact .inr (.inr (.inr ⟨e, hmem, by rw [hemit]⟩))
    · exact .inr (.inl (by rw [hdrop]))
  · exact .inl ⟨s.armed, hidle⟩

/-! ### The invariant -/

/-- A state that offers nothing owes the invariant its accumulator only. -/
theorem State.inv_of_symValid_eq_false {s : State} (hacc : NoTripleZero s.acc) (hv : s.symValid = false) : s.Inv :=
  ⟨hacc, fun hv' => absurd hv' (by simp [hv])⟩

theorem State.commit_none_inv (s : State) (a : Bool) {c : Acc} (hc : NoTripleZero c) : (s.commit a c none).Inv :=
  State.inv_of_symValid_eq_false hc rfl

/-- An EMIT step offers a symbol of the ROM over cleared registers (43_varicode_decoder.md R104). -/
theorem State.commit_some_inv (s : State) {e : RomEntry} (he : e ∈ defaultRom) :
    (s.commit false 0 (some e.sym)).Inv :=
  ⟨noTripleZero_zero, fun _ => ⟨rfl, rfl, e, he, s.commit_offered _ _ _, rfl⟩⟩

theorem State.clocked_inv (s : State) (hacc : NoTripleZero s.acc) (p : Edge) : (s.clocked p).Inv := by
  obtain ⟨a, h⟩ | h | ⟨b, ho, he, h⟩ | ⟨e, he, h⟩ := s.clocked_writes p <;> rw [h]
  · exact s.commit_none_inv a hacc
  · exact s.commit_none_inv false noTripleZero_zero
  · exact s.commit_none_inv false (noTripleZero_shifted hacc ho he)
  · exact s.commit_some_inv he

theorem State.clocked_acc (s : State) (p : Edge) : (s.clocked p).acc = s.acc ∨ AccInv (s.clocked p).acc := by
  obtain ⟨a, h⟩ | h | ⟨b, -, he, h⟩ | ⟨e, -, h⟩ := s.clocked_writes p <;> rw [h]
  · exact .inl rfl
  · exact .inr (.inl rfl)
  · exact .inr (accInv_of_not_eoc he)
  · exact .inr (.inl rfl)

/-! ## The statements of 10_state.md -/

/-- Settles O37: a step is a clock edge, and an edge keeps the invariant whatever it writes. -/
theorem stepKeepsTheInvariant : Obligations.StepKeepsTheInvariant := by
  rintro s ⟨hacc, -⟩
  exact ⟨_, step_eq_clocked s, s.consumeEdge.clocked_inv hacc s.edge⟩

/-- Settles O38: an edge keeps `acc`, clears it, or writes a value that failed the end-of-character test. -/
theorem everyWriteOfAccMeetsInv : Obligations.EveryWriteOfAccMeetsInv := by
  intro s t h
  rw [eq_clocked_of_step h]
  exact s.consumeEdge.clocked_acc s.edge

/-- Settles O41: in both states the edge commits the same registers and the same symbol, and the sink reads back
exactly that symbol. -/
theorem outputRegistersAreWriteOnly : Obligations.OutputRegistersAreWriteOnly := by
  intro s s' t t' harmed hacc hedges h h'
  obtain ⟨a, c, e, hcommit⟩ := State.exists_clocked_eq_commit s.regs s.edge
  have ht : t = s.consumeEdge.commit a c e := (eq_clocked_of_step h).trans (hcommit _ s.consumeEdge_regs)
  have hregs : s'.regs = s.regs := by rw [State.regs, State.regs, harmed, hacc]
  have hedge : s'.edge = s.edge := by rw [State.edge, State.edge, hedges]
  have ht' : t' = s'.consumeEdge.commit a c e := by
    rw [eq_clocked_of_step h', hedge]
    exact hcommit _ (s'.consumeEdge_regs.trans hregs)
  subst ht ht'
  simp [hedges]

/-- Settles O35: each is a field of the reset state. -/
theorem resetValues : Obligations.ResetValues := ⟨rfl, rfl, rfl, rfl⟩

/-- Settles O36: reset offers nothing, and its accumulator is zero. -/
theorem resetMeetsTheInvariant : Obligations.ResetMeetsTheInvariant :=
  State.inv_of_symValid_eq_false noTripleZero_zero rfl

end Sys2Proof.Machine

/-! ## Decode and encode agree (30_encoding.md R53 to R55) -/

namespace Sys2Proof

/-! ### Two-bit words -/

theorem wordOfBits_toNat_lt (b1 b0 : Bool) : (wordOfBits b1 b0).toNat < 4 := by
  revert b1 b0
  decide

@[simp] theorem wordBit_one_wordOfBits (b1 b0 : Bool) : wordBit (wordOfBits b1 b0) 1 = b1 := by
  revert b1 b0
  decide

@[simp] theorem wordBit_zero_wordOfBits (b1 b0 : Bool) : wordBit (wordOfBits b1 b0) 0 = b0 := by
  revert b1 b0
  decide

/-- A word with no bit set above bit 1 is the word of two bits. -/
theorem exists_eq_wordOfBits {w : Word} (hw : w.toNat < 4) : ∃ b1 b0, w = wordOfBits b1 b0 := by
  obtain ⟨n, hn, rfl⟩ : ∃ n < 4, w = BitVec.ofNat 32 n := ⟨w.toNat, hw, by simp⟩
  interval_cases n
  · exact ⟨false, false, rfl⟩
  · exact ⟨false, true, rfl⟩
  · exact ⟨true, false, rfl⟩
  · exact ⟨true, true, rfl⟩

/-! ### The operation map -/

section
variable {smp : Sample} {c : Conditions}

theorem selectSample_of_high (hc : smp.clock = true) : selectSample smp c = .arm smp.data := by
  simp [selectSample, hc]

theorem selectSample_of_not_armed (hc : smp.clock = false) (ha : c.armed = false) :
    selectSample smp c = .hold smp.data := by
  simp [selectSample, hc, ha]

theorem selectSample_of_ovf (hc : smp.clock = false) (ha : c.armed = true) (ho : c.ovf = true) :
    selectSample smp c = .ovf smp.data := by
  simp [selectSample, hc, ha, ho]

theorem selectSample_of_not_eoc (hc : smp.clock = false) (ha : c.armed = true) (ho : c.ovf = false)
    (he : c.eoc = false ∨ smp.data = true) : selectSample smp c = .shift smp.data := by
  cases he with
  | inl he => simp [selectSample, hc, ha, ho, he]
  | inr hd => simp [selectSample, hc, ha, ho, hd]

theorem selectSample_of_hit (hc : smp.clock = false) (ha : c.armed = true) (ho : c.ovf = false)
    (he : c.eoc = true ∧ smp.data = false) (hh : c.hit = true) : selectSample smp c = .emit := by
  simp [selectSample, hc, ha, ho, he, hh]

theorem selectSample_of_miss (hc : smp.clock = false) (ha : c.armed = true) (ho : c.ovf = false)
    (he : c.eoc = true ∧ smp.data = false) (hh : c.hit = false) : selectSample smp c = .drop := by
  simp [selectSample, hc, ha, ho, he, hh]

end

/-- Everything the operation map can select, one case per row of 30_encoding.md R53. -/
theorem selectSample_cases (smp : Sample) (c : Conditions) :
    (smp.clock = true ∧ selectSample smp c = .arm smp.data) ∨
    (smp.clock = false ∧ c.armed = false ∧ selectSample smp c = .hold smp.data) ∨
    (smp.clock = false ∧ c.armed = true ∧ c.ovf = true ∧ selectSample smp c = .ovf smp.data) ∨
    (smp.clock = false ∧ c.armed = true ∧ c.ovf = false ∧ (c.eoc = false ∨ smp.data = true) ∧
      selectSample smp c = .shift smp.data) ∨
    (smp.clock = false ∧ c.armed = true ∧ c.ovf = false ∧ (c.eoc = true ∧ smp.data = false) ∧ c.hit = true ∧
      selectSample smp c = .emit) ∨
    (smp.clock = false ∧ c.armed = true ∧ c.ovf = false ∧ (c.eoc = true ∧ smp.data = false) ∧ c.hit = false ∧
      selectSample smp c = .drop) := by
  cases hc : smp.clock with
  | true => exact .inl ⟨rfl, selectSample_of_high hc⟩
  | false =>
  refine .inr ?_
  cases ha : c.armed with
  | false => exact .inl ⟨rfl, rfl, selectSample_of_not_armed hc ha⟩
  | true =>
  refine .inr ?_
  cases ho : c.ovf with
  | true => exact .inl ⟨rfl, rfl, rfl, selectSample_of_ovf hc ha ho⟩
  | false =>
  refine .inr ?_
  by_cases he : c.eoc = true ∧ smp.data = false
  · refine .inr ?_
    cases hh : c.hit with
    | true => exact .inl ⟨rfl, rfl, rfl, he, rfl, selectSample_of_hit hc ha ho he hh⟩
    | false => exact .inr ⟨rfl, rfl, rfl, he, rfl, selectSample_of_miss hc ha ho he hh⟩
  · have he' : c.eoc = false ∨ smp.data = true := by simpa using not_and_or.1 he
    exact .inl ⟨rfl, rfl, rfl, he', selectSample_of_not_eoc hc ha ho he'⟩

theorem formatOf_selectSample (smp : Sample) (c : Conditions) : formatOf (selectSample smp c) = .sample := by
  obtain ⟨-, h⟩ | ⟨-, -, h⟩ | ⟨-, -, -, h⟩ | ⟨-, -, -, -, h⟩ | ⟨-, -, -, -, -, h⟩ | ⟨-, -, -, -, -, h⟩ :=
    selectSample_cases smp c <;> rw [h] <;> rfl

/-- The row selected has the sample's own word. -/
theorem encode_selectSample (smp : Sample) (c : Conditions) :
    encode (selectSample smp c) = wordOfBits smp.clock smp.data := by
  obtain ⟨hc, h⟩ | ⟨hc, -, h⟩ | ⟨hc, -, -, h⟩ | ⟨hc, -, -, -, h⟩ | ⟨hc, -, -, ⟨-, hd⟩, -, h⟩ |
    ⟨hc, -, -, ⟨-, hd⟩, -, h⟩ := selectSample_cases smp c <;> rw [h, hc]
  case' inr.inr.inr.inr.inl | inr.inr.inr.inr.inr => rw [hd]
  all_goals rfl

/-- The row selected asks for the very columns that selected it, but where they say `eoc = 1` beside a data bit 1
(42_bit_accumulator.md R83 rules that out). -/
theorem rowConditions_selectSample (smp : Sample) (c : Conditions) :
    rowConditions (selectSample smp c) c =
      !(!smp.clock && smp.data && c.armed && !c.ovf && c.eoc) := by
  obtain ⟨hc, h⟩ | ⟨hc, ha, h⟩ | ⟨hc, ha, ho, h⟩ | ⟨hc, ha, ho, he, h⟩ | ⟨hc, ha, ho, ⟨he, hd⟩, hh, h⟩ |
    ⟨hc, ha, ho, ⟨he, hd⟩, hh, h⟩ := selectSample_cases smp c <;> rw [h, rowConditions, hc]
  · rfl
  · simp [ha]
  · simp [ha, ho]
  · cases he with
    | inl he => simp [ha, ho, he]
    | inr hd => simp [ha, ho, hd]
  · simp [ha, ho, he, hd, hh]
  · simp [ha, ho, he, hd, hh]

theorem decodeSample_wordOfBits (smp : Sample) (c : Conditions) :
    decodeSample c (wordOfBits smp.clock smp.data) =
      if rowConditions (selectSample smp c) c then .ok (selectSample smp c) else .error .eocWithDataOne := by
  have hlt := wordOfBits_toNat_lt smp.clock smp.data
  rw [rowConditions_selectSample, decodeSample, if_neg (by omega), sampleOfWord]
  simp only [wordBit_one_wordOfBits, wordBit_zero_wordOfBits]
  cases !smp.clock && smp.data && c.armed && !c.ovf && c.eoc <;> rfl

theorem decodePort_wordOfBits (b1 b0 : Bool) :
    decodePort (wordOfBits b1 b0) =
      if b1 then .ok (.reset b0) else if b0 then .error .sampleConsumed else .ok .idle := by
  have hlt := wordOfBits_toNat_lt b1 b0
  rw [decodePort, if_neg (by omega), wordBit_one_wordOfBits, wordBit_zero_wordOfBits]

/-- Only words of two bits are read as a sample word. -/
theorem lt_of_decodeSample {c : Conditions} {w : Word} {i : Instr} (h : decodeSample c w = .ok i) : w.toNat < 4 := by
  by_contra hw
  rw [decodeSample, if_pos (by omega)] at h
  cases h

theorem lt_of_decodePort {w : Word} {i : Instr} (h : decodePort w = .ok i) : w.toNat < 4 := by
  by_contra hw
  rw [decodePort, if_pos (by omega)] at h
  cases h

/-! ### A word that decodes is the word of its row -/

section
variable {c : Conditions} {w : Word} {i : Instr}

theorem eq_selectSample_of_decodeSample (h : decodeSample c w = .ok i) : i = selectSample (sampleOfWord w) c := by
  unfold decodeSample at h
  split at h
  · cases h
  split at h
  · cases h
  · exact (Except.ok.inj h).symm

theorem decodeSample_inv (h : decodeSample c w = .ok i) :
    .sample = formatOf i ∧ w = encode i ∧ rowConditions i c = true := by
  obtain ⟨clock, data, rfl⟩ := exists_eq_wordOfBits (lt_of_decodeSample h)
  rw [decodeSample_wordOfBits ⟨clock, data⟩] at h
  split at h
  case isTrue hrow =>
    obtain rfl := Except.ok.inj h
    exact ⟨(formatOf_selectSample ⟨clock, data⟩ c).symm, (encode_selectSample ⟨clock, data⟩ c).symm, hrow⟩
  case isFalse => cases h

theorem decodePort_inv (h : decodePort w = .ok i) :
    .port = formatOf i ∧ w = encode i ∧ rowConditions i c = true := by
  obtain ⟨rst, en, rfl⟩ := exists_eq_wordOfBits (lt_of_decodePort h)
  rw [decodePort_wordOfBits] at h
  cases rst with
  | true =>
    obtain rfl := Except.ok.inj h
    exact ⟨rfl, rfl, rfl⟩
  | false =>
    cases en with
    | true => cases h
    | false =>
      obtain rfl := Except.ok.inj h
      exact ⟨rfl, rfl, rfl⟩

theorem rowConditions_of_format_key (hi : formatOf i = .key) : rowConditions i c = true := by
  cases i <;> cases hi <;> rfl

theorem formatOf_of_decodeKey (h : decodeKey w = .ok i) : formatOf i = .key :=
  (Machine.keyTable_encode _ (Machine.mem_of_decodeKey h)).2

theorem decodeKey_inv (h : decodeKey w = .ok i) :
    .key = formatOf i ∧ w = encode i ∧ rowConditions i c = true := by
  obtain ⟨hkey, hformat⟩ := Machine.keyTable_encode _ (Machine.mem_of_decodeKey h)
  exact ⟨hformat.symm, (BitVec.eq_of_toNat_eq hkey).symm, rowConditions_of_format_key hformat⟩

theorem decode_inv {f : Format} (h : decode f c w = .ok i) :
    f = formatOf i ∧ w = encode i ∧ rowConditions i c = true := by
  cases f with
  | sample => exact decodeSample_inv h
  | port => exact decodePort_inv h
  | key => exact decodeKey_inv h

/-! ### The word of a row decodes to it -/

/-- The key in binary, which `encode` gives, is the key in decimal, which the key table lists. -/
theorem decodeKey_encode (hi : formatOf i = .key) : decodeKey (encode i) = .ok i := by
  cases i <;> cases hi <;> rfl

theorem decode_encode (h : rowConditions i c = true) : decode (formatOf i) c (encode i) = .ok i := by
  by_cases hi : formatOf i = .key
  · exact Laws.EncodeDecodes.of_key (decodeKey_encode hi) hi c h
  cases i with
  | arm data => exact Laws.EncodeDecodes.arm data c h
  | hold data => exact Laws.EncodeDecodes.hold data c h
  | shift data => exact Laws.EncodeDecodes.shift data c h
  | emit => exact Laws.EncodeDecodes.emit c h
  | drop => exact Laws.EncodeDecodes.drop c h
  | ovf data => exact Laws.EncodeDecodes.ovf data c h
  | reset en => exact Laws.EncodeDecodes.reset en c h
  | idle => exact Laws.EncodeDecodes.idle c h
  | _ => exact absurd rfl hi

end

/-- Settles O2: each decoder, inverted, gives the row's own format, word and columns; and the word of each row decodes
to it. -/
theorem decodeIsTheInverseOfEncode : Obligations.DecodeIsTheInverseOfEncode := by
  intro f c w i
  constructor
  · exact decode_inv
  · rintro ⟨rfl, rfl, hc⟩
    exact decode_encode hc

end Sys2Proof

/-! ## The row of an edge (30_encoding.md R53, R54) -/

namespace Sys2Proof.Machine

section
variable (s : State) (smp : Sample)

/-- A data bit 1 never ends a character (42_bit_accumulator.md R83). -/
theorem data_eq_false_of_eoc {acc : Acc} {data : Bool} (h : eoc (shifted acc data) = true) : data = false := by
  obtain ⟨-, hlow⟩ := (eoc_eq_true_iff _).1 h
  have hmod : (shifted acc data).toNat % 8 = 0 := (lowThree_eq_zero_iff _).1 hlow
  have hval : (shifted acc data).toNat = (2 * acc.toNat + data.toNat) % 2 ^ 32 := shifted_toNat (by decide) acc data
  cases data with
  | false => rfl
  | true =>
    rw [Bool.toNat_true] at hval
    omega

/-- Under the columns of a state every sample word decodes, and to the row the map selects. -/
theorem decodeSample_sampleWord :
    decodeSample (sampleConditions s smp) (sampleWord smp) = .ok (selectSample smp (sampleConditions s smp)) := by
  have hrow : rowConditions (selectSample smp (sampleConditions s smp)) (sampleConditions s smp) = true := by
    rw [rowConditions_selectSample]
    cases he : eoc (shifted s.acc smp.data) with
    | false => simp [sampleConditions, he]
    | true => simp [data_eq_false_of_eoc he]
  rw [sampleWord, decodeSample_wordOfBits, if_pos hrow]

theorem rowOutcome_of_format_key {i : Instr} (hi : formatOf i = .key) : rowOutcome i = some .emit := by
  cases i <;> cases hi <;> rfl

@[simp] theorem keyWord_eq (v : Acc) : keyWord v = v := BitVec.setWidth_eq v

theorem romRow_of_decodeKey {v : Acc} {i : Instr} (h : decodeKey v = .ok i) : romRow v = i := by
  rw [romRow, keyWord_eq, h]

/-- The row behind a hit is a row of format K, or EMIT itself. -/
theorem rowOutcome_romRow (v : Acc) : rowOutcome (romRow v) = some .emit := by
  unfold romRow
  split
  · rename_i i hi
    exact rowOutcome_of_format_key (formatOf_of_decodeKey hi)
  · rfl

theorem selectSample_eq_emit_iff (c : Conditions) :
    selectSample smp c = .emit ↔ rowConditions .emit c = true ∧ smp.clock = false ∧ smp.data = false := by
  constructor
  · intro h
    have hword : wordOfBits smp.clock smp.data = encode .emit := by rw [← h, encode_selectSample]
    rw [encode] at hword
    have hclock : smp.clock = false := by simpa using congrArg (wordBit · 1) hword
    have hdata : smp.data = false := by simpa using congrArg (wordBit · 0) hword
    refine ⟨?_, hclock, hdata⟩
    rw [← h, rowConditions_selectSample, hclock, hdata]
    rfl
  · rintro ⟨hrow, hclock, hdata⟩
    obtain ⟨⟨⟨ha, ho⟩, he⟩, hh⟩ : ((c.armed = true ∧ c.ovf = false) ∧ c.eoc = true) ∧ c.hit = true := by
      simpa [rowConditions] using hrow
    exact selectSample_of_hit hclock ha ho ⟨he, hdata⟩ hh

/-- A sample performs the map's row, but where that is EMIT the row behind the hit (log 8). -/
theorem sampleRow_eq :
    sampleRow s smp =
      if selectSample smp (sampleConditions s smp) = .emit then romRow (shifted s.acc smp.data)
      else selectSample smp (sampleConditions s smp) := by
  refine if_congr ?_ rfl rfl
  rw [selectSample_eq_emit_iff]
  simp [and_assoc]

theorem rowOutcome_selectSample :
    rowOutcome (selectSample smp (sampleConditions s smp)) = some (s.regs.step defaultRom smp).outcome := by
  obtain ⟨hc, h⟩ | ⟨hc, ha, h⟩ | ⟨hc, ha, ho, h⟩ | ⟨hc, ha, ho, he, h⟩ | ⟨hc, ha, ho, he, y, hy, h⟩ |
    ⟨hc, ha, ho, he, hy, h⟩ := s.regs.step_cases defaultRom smp <;> rw [h]
  · rw [selectSample_of_high hc, rowOutcome]
  · rw [selectSample_of_not_armed hc ha, rowOutcome]
  · rw [selectSample_of_ovf hc ha ho, rowOutcome]
  · rw [selectSample_of_not_eoc hc ha ho (.inl he), rowOutcome]
  · have hhit : hit defaultRom (shifted s.acc smp.data) = true := Option.isSome_of_mem hy
    rw [selectSample_of_hit hc ha ho ⟨he, data_eq_false_of_eoc he⟩ hhit, rowOutcome]
  · have hmiss : hit defaultRom (shifted s.acc smp.data) = false := by simpa [hit] using hy
    rw [selectSample_of_miss hc ha ho ⟨he, data_eq_false_of_eoc he⟩ hmiss, rowOutcome]

theorem rowOutcome_sampleRow : rowOutcome (sampleRow s smp) = some (s.regs.step defaultRom smp).outcome := by
  rw [sampleRow_eq, ← rowOutcome_selectSample]
  split
  case isTrue h => rw [rowOutcome_romRow, h]; rfl
  case isFalse => rfl

/-! ### What the next edge performs -/

theorem fetched_of_decodePort {i : Instr} (h : decodePort (portWord s.edge) = .ok i) : s.fetched = i := by
  rw [portWord, decodePort_wordOfBits] at h
  unfold State.fetched
  cases hr : s.edge.rst with
  | true =>
    rw [hr] at h
    exact Except.ok.inj h
  | false =>
    cases he : s.edge.sampleEn with
    | true => simp [hr, he] at h
    | false =>
      rw [hr, he] at h
      exact Except.ok.inj h

theorem fetched_of_sample (hr : s.edge.rst = false) (he : s.edge.sampleEn = true) :
    s.fetched = sampleRow s (edgeSample s.edge) := by
  simp [State.fetched, hr, he]

theorem step_of_sample (hr : s.edge.rst = false) (he : s.edge.sampleEn = true) :
    step s = .next (s.consumeEdge.sampled (edgeSample s.edge)) := by
  rw [step, fetched_of_sample s hr he, exec_sampleRow]

end

/-- Settles O3: the row the map selects is the one that the sample word decodes to, and each row that applies is
decoded from the same word and columns. -/
theorem exactlyOneRowOfTheMapApplies : Obligations.ExactlyOneRowOfTheMapApplies := by
  intro s smp
  have hdecode := decodeSample_sampleWord s smp
  refine ⟨selectSample smp (sampleConditions s smp), ?_, ?_⟩
  · obtain ⟨hformat, hword, hrow⟩ := decodeSample_inv hdecode
    exact ⟨hformat.symm, hword.symm, hrow⟩
  · rintro i ⟨hformat, hword, hrow⟩
    have hi := decode_encode hrow
    rw [hformat, hword] at hi
    exact Except.ok.inj (hi.symm.trans hdecode)

/-- Settles O4: case by case of the step function; the row behind a hit is an EMIT step too. -/
theorem theMapSelectsTheOutcomeOfTheStep : Obligations.TheMapSelectsTheOutcomeOfTheStep := fun s smp =>
  ⟨rowOutcome_selectSample s smp, rowOutcome_sampleRow s smp⟩

/-- Settles O5: a port word decodes to the row fetched; the row of format S processes the sample, as the step does;
and a row of format K processes `low(data=0)`, the sample of EMIT. -/
theorem stepRunsTheDecodedRow : Obligations.StepRunsTheDecodedRow := by
  intro s c i
  refine ⟨fun hport => ?_, fun hr he => ⟨fun hsample => ?_, fun hemit hkey => ?_⟩⟩
  · rw [step, fetched_of_decodePort s hport]
  · obtain rfl := Except.ok.inj ((decodeSample_sampleWord s _).symm.trans hsample)
    rw [step_of_sample s hr he, exec_selectSample]
  · have hsel := Except.ok.inj ((decodeSample_sampleWord s _).symm.trans hemit)
    obtain ⟨-, hclock, hdata⟩ := (selectSample_eq_emit_iff _ _).1 hsel
    have hlow : edgeSample s.edge = ⟨false, false⟩ := congrArg₂ Sample.mk hclock hdata
    rw [step_of_sample s hr he, hlow, exec_of_format_key _ (formatOf_of_decodeKey hkey)]

end Sys2Proof.Machine

/-! ## Table words that are placed (30_encoding.md R55) -/

namespace Sys2Proof.Machine

theorem toOption_eq_some {i : Instr} {x : Except Reject Instr} (h : x.toOption = some i) : x = .ok i := by
  cases x with
  | error => cases h
  | ok j => rw [Option.some.inj h]

/-- The two readings of a table word: a sample word under the columns of the reset state, or a key of the table. -/
theorem decodeTableWord_cases {nbits w : Nat} {i : Instr} (h : decodeTableWord nbits w = some i) :
    ((nbits = 8 ∧ w < 4) ∧ i = selectSample (sampleOfWord (BitVec.ofNat 32 w)) resetConditions) ∨
    (¬(nbits = 8 ∧ w < 4) ∧ w < 2 ^ 32 ∧ decodeKey (BitVec.ofNat 32 w) = .ok i) := by
  unfold decodeTableWord at h
  split at h
  case isTrue hs =>
    exact .inl ⟨hs, eq_selectSample_of_decodeSample (toOption_eq_some h)⟩
  split at h
  case isTrue hs hk =>
    obtain ⟨hn, hw⟩ := hk
    have hle : 2 ^ nbits ≤ 2 ^ 32 := Nat.pow_le_pow_right (by decide) (by omega)
    exact .inr ⟨hs, lt_of_lt_of_le hw hle, toOption_eq_some h⟩
  case isFalse => cases h

/-- A sample whose clock is high, or that finds `armed = 0`, selects its row by its own word. -/
theorem sampleRow_of_no_capture {s : State} {smp : Sample} {c : Conditions} (hs : smp.clock = true ∨ s.armed = false)
    (hc : smp.clock = true ∨ c.armed = false) : sampleRow s smp = selectSample smp c := by
  cases hclock : smp.clock with
  | true =>
    rw [sampleRow_eq, selectSample_of_high hclock, selectSample_of_high hclock, if_neg (by simp)]
  | false =>
    have ha : s.armed = false := by simpa [hclock] using hs
    have hb : c.armed = false := by simpa [hclock] using hc
    rw [sampleRow_eq, selectSample_of_not_armed hclock ha, selectSample_of_not_armed hclock hb, if_neg (by simp)]

/-- A word that decodes as a key is the key of an entry of the default ROM, the entry its row names. -/
theorem exists_entry_of_decodeKey {v : Word} {i : Instr} (h : decodeKey v = .ok i) :
    ∃ e ∈ defaultRom, e.key = v.toNat ∧ romEntryOf i = some e := by
  obtain ⟨e, he, hkey, hentry⟩ := keyTable_entry _ (mem_of_decodeKey h)
  exact ⟨e, he, hkey.symm, hentry⟩

/-- The bits of an even value before its last, taken in, and then that bit. -/
theorem shifted_half {v : Acc} (hv : v.toNat % 2 = 0) :
    shifted (BitVec.ofNat Config.W (v.toNat / 2)) false = v ∧
      Machine.ovf (BitVec.ofNat Config.W (v.toNat / 2)) = false := by
  have hlt : v.toNat < 2 ^ 32 := v.isLt
  have hhalf : (BitVec.ofNat Config.W (v.toNat / 2)).toNat = v.toNat / 2 := Nat.mod_eq_of_lt (by omega)
  constructor
  · apply BitVec.eq_of_toNat_eq
    rw [shifted_toNat (by decide), hhalf, Bool.toNat_false]
    change (2 * (v.toNat / 2) + 0) % 2 ^ 32 = v.toNat
    omega
  · refine BitVec.msb_eq_false_iff_two_mul_lt.2 ?_
    rw [hhalf]
    change 2 * (v.toNat / 2) < 2 ^ 32
    omega

/-- A sample 0 that completes the key of a row, in an armed state, performs the row. -/
theorem sampleRow_of_key {s : State} {v : Acc} {i : Instr} (h : decodeKey v = .ok i) (ha : s.armed = true)
    (hv : shifted s.acc false = v) (ho : Machine.ovf s.acc = false) : sampleRow s ⟨false, false⟩ = i := by
  obtain ⟨e, he, hkey, -⟩ := exists_entry_of_decodeKey h
  have heoc : eoc (shifted s.acc false) = true := by
    obtain ⟨-, hmod, hne⟩ := defaultRom_keys e he
    rw [hkey] at hmod hne
    rw [hv, eoc_eq_true_iff, lowThree_eq_zero_iff, ← BitVec.toNat_ne_iff_ne]
    exact ⟨hne, hmod⟩
  have hhit : hit defaultRom (shifted s.acc false) = true := by
    rw [hv, hit, romRead_of_mem defaultRom_nodup he hkey]
    rfl
  have hemit : selectSample ⟨false, false⟩ (sampleConditions s ⟨false, false⟩) = .emit :=
    selectSample_of_hit rfl ha ho ⟨heoc, rfl⟩ hhit
  rw [sampleRow_eq, if_pos hemit, hv, romRow_of_decodeKey h]

theorem withFetchWord_of_sample (s : State) {nbits w : Nat} (hs : nbits = 8 ∧ w < 4) :
    s.withFetchWord nbits w =
      { s with
        armed := (sampleOfWord (BitVec.ofNat 32 w)).clock && s.armed
        edges := sampleEdge (sampleOfWord (BitVec.ofNat 32 w)) :: s.edges } := if_pos hs

theorem withFetchWord_of_key (s : State) {nbits w : Nat} (hs : ¬(nbits = 8 ∧ w < 4)) :
    s.withFetchWord nbits w =
      { s with
        armed := true
        acc := BitVec.ofNat Config.W (w / 2)
        edges := sampleEdge ⟨false, w % 2 == 1⟩ :: s.edges } := if_neg hs

theorem fetched_withFetchWord (s : State) {nbits w : Nat} {i : Instr} (h : decodeTableWord nbits w = some i) :
    (s.withFetchWord nbits w).fetched = i := by
  obtain ⟨hs, rfl⟩ | ⟨hs, hw, hkey⟩ := decodeTableWord_cases h
  · rw [withFetchWord_of_sample s hs, fetched_of_sample _ rfl rfl]
    refine sampleRow_of_no_capture ?_ (.inr rfl)
    cases hc : (sampleOfWord (BitVec.ofNat 32 w)).clock with
    | true => exact .inl hc
    | false => exact .inr rfl
  · obtain ⟨e, he, hek, -⟩ := exists_entry_of_decodeKey hkey
    have hval : (BitVec.ofNat 32 w).toNat = w := Nat.mod_eq_of_lt hw
    have heven : w % 2 = 0 := by
      obtain ⟨-, hmod, -⟩ := defaultRom_keys e he
      omega
    obtain ⟨hshift, hovf⟩ := shifted_half (hval.symm ▸ heven)
    rw [hval] at hshift hovf
    rw [withFetchWord_of_key s hs, heven, fetched_of_sample _ rfl rfl]
    exact sampleRow_of_key hkey rfl hshift hovf

theorem withFetchWord_consumeEdge_edges (s : State) (nbits w : Nat) :
    (s.withFetchWord nbits w).consumeEdge.edges = s.edges := by
  unfold State.withFetchWord State.placeWord
  split <;> rfl

/-- Settles O6: a placed sample word finds no capture, so it selects its row as after reset; a placed key is completed
by its last bit. -/
theorem placedTableWordRunsNext : Obligations.PlacedTableWordRunsNext := by
  intro s nbits w i h
  have hfetched := fetched_withFetchWord s h
  exact ⟨hfetched, by rw [step, hfetched], withFetchWord_consumeEdge_edges s nbits w⟩

end Sys2Proof.Machine

/-! ## The default ROM (30_encoding.md R44 to R49) -/

namespace Sys2Proof.Machine

/-- Settles O25: both sides find the value in their transcription of the table, and the transcriptions name each other's
entries. -/
theorem keyRowsAreTheRom : Obligations.KeyRowsAreTheRom := by
  intro k sym
  constructor
  · intro h
    obtain ⟨e, hdecode, hentry, -, hsym⟩ := romRow_of_hit h
    rw [keyWord_eq] at hdecode
    exact ⟨_, e, hdecode, hentry, hsym⟩
  · rintro ⟨i, e, hdecode, hentry, rfl⟩
    obtain ⟨e', he', hkey, hentry'⟩ := exists_entry_of_decodeKey hdecode
    obtain rfl := Option.some.inj (hentry.symm.trans hentry')
    exact romRead_of_mem defaultRom_nodup he' hkey

/-- The symbol of the character code `n` in the default ROM: both codes of a line ending stand for the two characters. -/
def symbolOfCode (n : Nat) : Symbol :=
  if n = 0x0A ∨ n = 0x0D then crLf else .one (BitVec.ofNat 8 n)

/-- The default ROM lists its symbols in the order of the character codes. -/
theorem defaultRom_map_sym : defaultRom.map RomEntry.sym = (List.range 128).map symbolOfCode := by decide

theorem length_filter_sym (rom : Rom) (y : Symbol) :
    (rom.filter fun e => e.sym == y).length = (rom.map RomEntry.sym).count y := by
  rw [List.count, List.countP_map, List.countP_eq_length_filter]
  rfl

/-- Among the character codes only `c` itself has the one-character symbol `c`. -/
theorem symbolOfCode_eq_one_iff {n : Nat} {c : BitVec 7} (hn : n < 128) (ha : c ≠ 0x0A) (hd : c ≠ 0x0D) :
    symbolOfCode n = .one (c.setWidth 8) ↔ n = c.toNat := by
  have hlt : c.toNat < 128 := c.isLt
  unfold symbolOfCode
  split
  case isTrue h =>
    have hne : n ≠ c.toNat := by
      rintro rfl
      cases h with
      | inl h => exact ha (BitVec.eq_of_toNat_eq h)
      | inr h => exact hd (BitVec.eq_of_toNat_eq h)
    exact iff_of_false Symbol.noConfusion hne
  case isFalse =>
    rw [Symbol.one.injEq, ← BitVec.toNat_inj, BitVec.toNat_ofNat, BitVec.toNat_setWidth]
    omega

theorem defaultRom_filter_char {c : BitVec 7} (ha : c ≠ 0x0A) (hd : c ≠ 0x0D) :
    (defaultRom.filter fun e => e.sym == .one (c.setWidth 8)).length = 1 := by
  have hcodes : ∀ n ∈ List.range 128, symbolOfCode n == .one (c.setWidth 8) ↔ n == c.toNat := by
    intro n hn
    rw [beq_iff_eq, beq_iff_eq]
    exact symbolOfCode_eq_one_iff (List.mem_range.1 hn) ha hd
  calc (defaultRom.filter fun e => e.sym == .one (c.setWidth 8)).length
      = ((List.range 128).map symbolOfCode).count (.one (c.setWidth 8)) := by
        rw [length_filter_sym, defaultRom_map_sym]
    _ = (List.range 128).count c.toNat := by
        rw [List.count, List.countP_map]
        exact List.countP_congr hcodes
    _ = 1 := List.count_eq_one_of_mem List.nodup_range (List.mem_range.2 c.isLt)

theorem defaultRom_countOk : defaultRom.countOk = true := by
  have hlength := congrArg List.length defaultRom_map_sym
  rw [List.length_map, List.length_map, List.length_range] at hlength
  exact beq_iff_eq.2 hlength

theorem defaultRom_distinctOk : defaultRom.distinctOk = true := decide_eq_true defaultRom_nodup

theorem defaultRom_nonzeroOk : defaultRom.nonzeroOk = true := by
  refine List.all_eq_true.2 fun e he => ?_
  obtain ⟨-, -, hne⟩ := defaultRom_keys e he
  exact bne_iff_ne.2 hne

theorem defaultRom_paddedOk : defaultRom.paddedOk = true := by
  refine List.all_eq_true.2 fun e he => ?_
  obtain ⟨-, hmod, -⟩ := defaultRom_keys e he
  exact beq_iff_eq.2 hmod

theorem defaultRom_boundedOk : defaultRom.boundedOk = true := by
  refine List.all_eq_true.2 fun e he => ?_
  obtain ⟨hlt, -, -⟩ := defaultRom_keys e he
  exact decide_eq_true hlt

theorem defaultRom_longestOk : defaultRom.longestOk = true :=
  List.any_eq_true.2 ⟨rom1D, romEntryOf_mem (i := .k1D) rfl, rfl⟩

theorem defaultRom_secondLineEndingOk : defaultRom.secondLineEndingOk = true := by decide

theorem defaultRom_coverageOk : defaultRom.coverageOk = true := by decide +kernel

theorem defaultRom_codesOk : defaultRom.codesOk = true := by decide

theorem defaultRom_legal : defaultRom.legal = true := by
  have hletter : defaultRom.letterEOk = true := List.contains_iff_mem.2 (romEntryOf_mem (i := .k65) rfl)
  have hending : defaultRom.lineEndingOk = true := List.contains_iff_mem.2 (romEntryOf_mem (i := .k0A) rfl)
  rw [Rom.legal, defaultRom_countOk, defaultRom_distinctOk, defaultRom_nonzeroOk, defaultRom_paddedOk,
    defaultRom_boundedOk, defaultRom_longestOk, hletter, hending, defaultRom_secondLineEndingOk, defaultRom_coverageOk,
    defaultRom_codesOk]
  rfl

/-- Settles O24: the constraints item by item; and the symbols, in the order of the codes, repeat none but the line
ending. -/
theorem defaultRomIsLegal : Obligations.DefaultRomIsLegal :=
  ⟨defaultRom_legal, fun _ ha hd => defaultRom_filter_char ha hd⟩

end Sys2Proof.Machine

namespace Sys2Proof

/-- Settles O1: each word is the row's encoding, read as a table word or under columns that the row asks for. -/
theorem writtenOutWordsDecode : Obligations.WrittenOutWordsDecode := by
  refine ⟨rfl, rfl, rfl, rfl, ?shift, ?emit, ?drop, ?ovf, ?reset, ?idle, rfl, rfl, rfl⟩
  case shift => exact Laws.EncodeDecodes.shift true _ rfl
  case emit => exact Laws.EncodeDecodes.emit _ rfl
  case drop => exact Laws.EncodeDecodes.drop _ rfl
  case ovf => exact Laws.EncodeDecodes.ovf true _ rfl
  case reset => exact Laws.EncodeDecodes.reset false resetConditions rfl
  case idle => exact Laws.EncodeDecodes.idle resetConditions rfl

end Sys2Proof

/-! ## The lookup in a legal ROM (40_lookup_rom.md R61) -/

namespace Sys2Proof

section
variable {w : Nat} {rom : Rom} {e : RomEntry}

theorem Rom.nodup_keys_of_legal (h : rom.legal = true) : (rom.map RomEntry.key).Nodup := by
  simp only [Rom.legal, Bool.and_eq_true, and_assoc] at h
  obtain ⟨-, hdistinct, -⟩ := h
  exact of_decide_eq_true hdistinct

/-- What a legal ROM asks of each key (30_encoding.md R44 items 2 to 4). -/
theorem Rom.key_of_legal (h : rom.legal = true) (he : e ∈ rom) :
    e.key ≠ 0 ∧ e.key % 8 = 0 ∧ e.key < 2 ^ Config.keyMaxBits := by
  simp only [Rom.legal, Bool.and_eq_true, and_assoc] at h
  obtain ⟨-, -, hnonzero, hpadded, hbounded, -⟩ := h
  exact ⟨bne_iff_ne.1 (List.all_eq_true.1 hnonzero e he), beq_iff_eq.1 (List.all_eq_true.1 hpadded e he),
    of_decide_eq_true (List.all_eq_true.1 hbounded e he)⟩

/-- A legal width holds every key of a legal ROM, so that the key and its zero-extended word are equal to the same
values. -/
theorem Rom.ofNat_key_eq_iff (hw : legalWidth w = true) (h : rom.legal = true) (he : e ∈ rom) (k : BitVec w) :
    BitVec.ofNat w e.key = k ↔ e.key = k.toNat := by
  obtain ⟨-, -, hlt⟩ := Rom.key_of_legal h he
  have hfits : e.key < 2 ^ w := hlt.trans_le (Nat.pow_le_pow_right Nat.two_pos (of_decide_eq_true hw))
  rw [← BitVec.toNat_inj, BitVec.toNat_ofNat, Nat.mod_eq_of_lt hfits]

end

end Sys2Proof

namespace Sys2Proof.Machine

section
variable {w : Nat} {rom : Rom} {k : BitVec w}

/-- Where the keys are distinct, `RomRead` answers the symbols of the entries whose key is the value. -/
theorem romRead_eq_some_iff (hd : (rom.map RomEntry.key).Nodup) (sym : Symbol) :
    romRead rom k = some sym ↔ ∃ e ∈ rom, e.key = k.toNat ∧ e.sym = sym := by
  constructor
  · exact romRead_some
  · rintro ⟨e, he, hkey, rfl⟩
    exact romRead_of_mem hd he hkey

/-- A value that no key of a legal ROM can have, by its three constraints on a key, is not found. -/
theorem romRead_eq_none_of_legal (h : rom.legal = true)
    (hk : k = 0 ∨ k.toNat % 8 ≠ 0 ∨ 2 ^ Config.keyMaxBits ≤ k.toNat) : romRead rom k = none := by
  refine romRead_none_iff.2 fun e he hkey => ?_
  obtain ⟨hnonzero, hpadded, hbounded⟩ := Rom.key_of_legal h he
  rw [hkey] at hnonzero hpadded hbounded
  obtain rfl | hmod | hle := hk
  · exact hnonzero BitVec.toNat_zero
  · exact hmod hpadded
  · exact hbounded.not_ge hle

end

theorem romRead_defaultRom_of_row {i : Instr} {e : RomEntry} (h : romEntryOf i = some e) {w : Nat} {k : BitVec w}
    (hk : e.key = k.toNat) : romRead defaultRom k = some e.sym :=
  romRead_of_mem defaultRom_nodup (romEntryOf_mem h) hk

/-- Settles O23: a key fits a legal width, so equality with the key is equality with its word. -/
theorem romReadIsExactEquality : Obligations.RomReadIsExactEquality := by
  refine ⟨fun w rom k hw h => ⟨fun sym => ?found, romRead_eq_none_of_legal h⟩, ?letterE, ?lineEnding, ?secondLineEnding,
    ?noKey, ?tooLong⟩
  case found =>
    rw [romRead_eq_some_iff (Rom.nodup_keys_of_legal h)]
    refine exists_congr fun e => and_congr_right fun he => ?_
    rw [Rom.ofNat_key_eq_iff hw h he]
  case letterE => exact romRead_defaultRom_of_row (i := .k65) rfl rfl
  case lineEnding => exact romRead_defaultRom_of_row (i := .k0A) rfl rfl
  case secondLineEnding => exact romRead_defaultRom_of_row (i := .k0D) rfl rfl
  case noKey => decide
  case tooLong => exact romRead_eq_none_of_legal defaultRom_legal (.inr (.inr (by decide)))

end Sys2Proof.Machine

/-! ## The armed latch and the capture strobe (41_edge_detector.md R71 to R76) -/

namespace Sys2Proof.Machine

section
variable (clock armed : Bool)

/-! ### The edge detector's two functions -/

/-- The strobe of R74 in a step. -/
theorem capture_eq_true_iff : capture true clock armed = true ↔ clock = false ∧ armed = true := by
  rw [capture, Bool.true_and, Bool.and_eq_true, Bool.not_eq_true']

/-- The table of R76: ARM sets the latch; on a low sample HOLD finds it cleared and FIRE clears it. -/
@[simp] theorem armedNext_step : armedNext true clock armed = clock := by
  cases clock with
  | true => rfl
  | false =>
    cases armed with
    | false => rfl
    | true => rfl

@[simp] theorem armedNext_no_step : armedNext false clock armed = armed := rfl

end

/-! ### The step function and the clock edge -/

/-- Whichever outcome a step has, it leaves `armed` equal to the clock bit: only ARM, on a high sample, leaves it set. -/
@[simp] theorem Regs.step_armed {w : Nat} (rom : Rom) (r : Regs w) (smp : Sample) :
    (r.step rom smp).regs.armed = smp.clock := by
  obtain ⟨hc, h⟩ | ⟨hc, -, h⟩ | ⟨hc, -, -, h⟩ | ⟨hc, -, -, -, h⟩ | ⟨hc, -, -, -, sym, -, h⟩ | ⟨hc, -, -, -, -, h⟩ :=
    r.step_cases rom smp
  all_goals rw [h, hc]

@[simp] theorem State.sampled_armed (s : State) (smp : Sample) : (s.sampled smp).armed = smp.clock :=
  Regs.step_armed defaultRom s.regs smp

/-- Settles O20: the table of the edge detector, and the edge as the step function's update. -/
theorem armedFollowsTheClockLine : Obligations.ArmedFollowsTheClockLine :=
  ⟨fun clock armed => ⟨armedNext_step clock armed, armedNext_no_step clock armed, capture_eq_true_iff clock armed⟩,
    fun s hr he => ⟨_, step_of_sample s hr he, s.consumeEdge.sampled_armed (edgeSample s.edge)⟩⟩

end Sys2Proof.Machine

/-! ## The bit accumulator (42_bit_accumulator.md) -/

namespace Sys2Proof.Machine

theorem pos_of_legalWidth {w : Nat} (hw : legalWidth w = true) : 0 < w :=
  lt_of_lt_of_le (by decide : 0 < Config.keyMaxBits) (of_decide_eq_true hw)

section
variable {w : Nat} {acc : BitVec w} {b : Bool}

/-! ### The shifted value and its two tests, as arithmetic (R81, R83, R84) -/

/-- Doubling makes room for the bit: whether the shift overflows does not depend on the bit it takes in. -/
theorem ovf_eq_true_iff (hw : 0 < w) (b : Bool) : ovf acc = true ↔ 2 ^ w ≤ 2 * acc.toNat + b.toNat := by
  have heven : 2 ^ w % 2 = 0 := Nat.mod_eq_zero_of_dvd (dvd_pow_self 2 hw.ne')
  have hb : b.toNat ≤ 1 := b.toNat_le
  have hmsb : ovf acc = true ↔ 2 ^ w ≤ 2 * acc.toNat := BitVec.msb_eq_true_iff_two_mul_ge
  rw [hmsb]
  omega

theorem shifted_toNat_of_not_ovf (hw : 0 < w) (ho : ovf acc = false) :
    (shifted acc b).toNat = 2 * acc.toNat + b.toNat := by
  have hlt : ¬ 2 ^ w ≤ 2 * acc.toNat + b.toNat := by
    rw [← ovf_eq_true_iff hw, ho]
    exact Bool.false_ne_true
  rw [shifted_toNat hw, Nat.mod_eq_of_lt (Nat.lt_of_not_le hlt)]

theorem eoc_iff_mod {v : BitVec w} : eoc v = true ↔ v ≠ 0 ∧ v.toNat % 8 = 0 := by
  rw [eoc_eq_true_iff, lowThree_eq_zero_iff]

theorem eight_le_of_eoc {v : BitVec w} (h : eoc v = true) : 8 ≤ v.toNat := by
  obtain ⟨hne, hmod⟩ := eoc_iff_mod.1 h
  have hpos : v.toNat ≠ 0 := BitVec.toNat_ne_iff_ne.2 hne
  omega

/-- The captured bit is the lowest bit of the shifted value, at every width. -/
theorem bit_eq_false_of_eoc (hw : 0 < w) (h : eoc (shifted acc b) = true) : b = false := by
  obtain ⟨-, hmod⟩ := eoc_iff_mod.1 h
  have heven : 2 ∣ 2 ^ w := dvd_pow_self 2 hw.ne'
  have hparity : (2 * acc.toNat + b.toNat) % 2 = 0 := by
    rw [← Nat.mod_mod_of_dvd _ heven, ← shifted_toNat hw]
    omega
  cases b with
  | false => rfl
  | true =>
    rw [Bool.toNat_true] at hparity
    omega

theorem eoc_eight (hw : legalWidth w = true) : eoc (8 : BitVec w) = true := by
  have hle : 13 ≤ w := of_decide_eq_true hw
  have hval : (8 : BitVec w).toNat = 8 :=
    Nat.mod_eq_of_lt (lt_of_lt_of_le (by decide : 8 < 2 ^ 13) (Nat.pow_le_pow_right Nat.two_pos hle))
  rw [eoc_iff_mod, ← BitVec.toNat_ne_iff_ne, hval]
  exact ⟨by simp, rfl⟩

theorem eoc_zero : eoc (0 : BitVec w) = false := by
  rw [Bool.eq_false_iff, ne_eq, eoc_iff_mod]
  rintro ⟨hne, -⟩
  exact hne rfl

/-! ### The next accumulator at a capture (R82, R85, R86) -/

theorem accNext_of_ovf (ho : ovf acc = true) (b : Bool) : accNext true b acc = 0 := by
  simp [accNext, ho]

theorem accNext_of_shift (ho : ovf acc = false) (he : eoc (shifted acc b) = false) :
    accNext true b acc = shifted acc b := by
  simp [accNext, ho, he]

/-- What a capture leaves in the accumulator: nothing, or the bit taken in with no bit lost. -/
theorem accNext_capture_cases (hw : 0 < w) (acc : BitVec w) (b : Bool) :
    accNext true b acc = 0 ∨
    (eoc (accNext true b acc) = false ∧ (accNext true b acc).toNat = 2 * acc.toNat + b.toNat) := by
  cases ho : ovf acc with
  | true => exact .inl (accNext_of_ovf ho b)
  | false =>
    cases he : eoc (shifted acc b) with
    | true => exact .inl (by simp [accNext, ho, he])
    | false =>
      rw [accNext_of_shift ho he]
      exact .inr ⟨he, shifted_toNat_of_not_ovf hw ho⟩

theorem accNext_capture_inv (hw : 0 < w) (acc : BitVec w) (b : Bool) : AccInv (accNext true b acc) := by
  obtain hzero | ⟨he, -⟩ := accNext_capture_cases hw acc b
  · exact .inl hzero
  · exact accInv_of_not_eoc he

/-- The accumulator's share of a step is the part's next `acc` at the capture strobe (43_varicode_decoder.md R98). -/
theorem Regs.step_acc (rom : Rom) (r : Regs w) (smp : Sample) :
    (r.step rom smp).regs.acc = accNext (capture true smp.clock r.armed) smp.data r.acc := by
  obtain ⟨hc, h⟩ | ⟨hc, ha, h⟩ | ⟨hc, ha, ho, h⟩ | ⟨hc, ha, ho, he, h⟩ | ⟨hc, ha, ho, he, y, -, h⟩ |
    ⟨hc, ha, ho, he, -, h⟩ := r.step_cases rom smp
  · simp [h, accNext, capture, hc]
  · simp [h, accNext, capture, ha]
  · simp [h, accNext, capture, hc, ha, ho]
  · simp [h, accNext, capture, hc, ha, ho, he]
  · simp [h, accNext, capture, hc, ha, ho, he]
  · simp [h, accNext, capture, hc, ha, ho, he]

theorem Regs.capture_of_ovf (rom : Rom) (ho : ovf acc = true) (b : Bool) :
    (Regs.mk true acc).step rom ⟨false, b⟩ = ⟨⟨false, 0⟩, none, .ovf⟩ := by
  simp [Regs.step, ho]

theorem Regs.capture_of_shift (rom : Rom) (ho : ovf acc = false) (he : eoc (shifted acc b) = false) :
    (Regs.mk true acc).step rom ⟨false, b⟩ = ⟨⟨false, shifted acc b⟩, none, .shift⟩ := by
  simp [Regs.step, ho, he]

/-- A bit is one capture, whatever `armed` was. -/
theorem Regs.after_bit_eq (rom : Rom) (r : Regs w) (b : Bool) :
    r.after rom (bitSamples b) = ⟨false, accNext true b r.acc⟩ := by
  rw [Regs.after_bit]
  exact congrArg₂ Regs.mk (Regs.step_armed rom _ _) (Regs.step_acc rom _ _)

theorem Regs.after_bits_concat (rom : Rom) (r : Regs w) (bs : List Bool) (b : Bool) :
    r.after rom (bitsSamples (bs ++ [b])) = ⟨false, accNext true b (r.after rom (bitsSamples bs)).acc⟩ := by
  rw [bitsSamples_append, Regs.after_append, ← Regs.after_bit_eq]
  rfl

end

/-- Settles O21: doubling and the bit stay below `2^W` exactly when the bit that leaves is 0. -/
theorem shiftLosesNothingUnlessOverflow : Obligations.ShiftLosesNothingUnlessOverflow := fun _ _ b hw =>
  have hpos := pos_of_legalWidth hw
  ⟨shifted_toNat_of_not_ovf hpos, ovf_eq_true_iff hpos b⟩

/-- Settles O22: the three low bits as a remainder, of which the captured bit is the lowest. -/
theorem endOfCharacterExactly : Obligations.EndOfCharacterExactly := fun _ hw =>
  ⟨fun _ => eoc_iff_mod, fun _ => eight_le_of_eoc, eoc_eight hw, fun _ _ => bit_eq_false_of_eoc (pos_of_legalWidth hw),
    eoc_zero⟩

end Sys2Proof.Machine

/-! ## The data line outside a capture (30_encoding.md section 1, 42_bit_accumulator.md R86) -/

namespace Sys2Proof.Machine

/-- A high sample, a HOLD and an OVF do the same with either data bit. -/
theorem Regs.step_data {w : Nat} (rom : Rom) {r : Regs w} {smp : Sample}
    (h : smp.clock = true ∨ r.armed = false ∨ ovf r.acc = true) (d : Bool) :
    r.step rom { smp with data := d } = r.step rom smp := by
  unfold Regs.step
  cases hc : smp.clock with
  | true => rfl
  | false =>
    cases ha : r.armed with
    | false => rfl
    | true =>
      have ho : ovf r.acc = true := by simpa [hc, ha] using h
      rw [ho]
      rfl

theorem State.clocked_dataIn {s : State} {p : Edge}
    (h : p.rst = true ∨ p.sampleEn = false ∨ p.clockIn = true ∨ s.armed = false ∨ ovf s.acc = true) (d : Bool) :
    s.clocked { p with dataIn := d } = s.clocked p := by
  unfold State.clocked
  cases hr : p.rst with
  | true => rfl
  | false =>
    cases he : p.sampleEn with
    | false => rfl
    | true =>
      have hno : p.clockIn = true ∨ s.armed = false ∨ ovf s.acc = true := by
        simpa [hr, he] using h
      have hsampled : s.sampled { edgeSample p with data := d } = s.sampled (edgeSample p) := by
        rw [State.sampled, Regs.step_data defaultRom (r := s.regs) hno d]
        rfl
      exact hsampled

/-- Settles O40: the step is the clock edge presented, which reads the data line at a capture without overflow only. -/
theorem dataIsReadOnlyInACapture : Obligations.DataIsReadOnlyInACapture := by
  intro s p d rest h
  refine ⟨_, step_present { s with edges := rest } p, (step_present { s with edges := rest } _).trans ?_⟩
  rw [State.clocked_dataIn (s := { s with edges := rest }) h]

end Sys2Proof.Machine

/-! ## Zeros taken in (43_varicode_decoder.md section 5, Self-synchronisation) -/

namespace Sys2Proof.Machine

section
variable {w : Nat}

theorem dvd_accNext_zero (hw : 0 < w) {acc : BitVec w} {k : Nat} (h : k ∣ acc.toNat) :
    2 * k ∣ (accNext true false acc).toNat := by
  obtain hzero | ⟨-, hshift⟩ := accNext_capture_cases hw acc false
  · simp [hzero]
  · rw [hshift]
    exact Nat.mul_dvd_mul_left 2 h

theorem Regs.after_idle_succ (rom : Rom) (r : Regs w) (n : Nat) :
    r.after rom (idleSamples (n + 1)) = ⟨false, accNext true false (r.after rom (idleSamples n)).acc⟩ := by
  rw [idleSamples, List.replicate_succ', Regs.after_bits_concat, idleSamples]

/-- Each zero taken in doubles the accumulator, or it has been cleared. -/
theorem Regs.two_pow_dvd_after_idle (hw : 0 < w) (rom : Rom) (r : Regs w) (n : Nat) :
    2 ^ n ∣ (r.after rom (idleSamples n)).acc.toNat := by
  induction n with
  | zero => exact one_dvd _
  | succ n ih =>
    rw [Regs.after_idle_succ, pow_succ']
    exact dvd_accNext_zero hw ih

end

/-- Settles O29: after three zeros the accumulator is a multiple of 8, and a capture leaves no such value but 0. -/
theorem threeZeroBitsResynchronise : Obligations.ThreeZeroBitsResynchronise := by
  intro w rom r hw
  have hpos := pos_of_legalWidth hw
  have hdvd : 2 ^ 3 ∣ (r.after rom (idleSamples 3)).acc.toNat := r.two_pow_dvd_after_idle hpos rom 3
  change r.after rom (idleSamples 3) = ⟨false, 0⟩
  rw [Regs.after_idle_succ] at hdvd ⊢
  obtain hzero | hlow := accNext_capture_inv hpos (r.after rom (idleSamples 2)).acc false
  · rw [hzero]
  · exact absurd ((lowThree_eq_zero_iff _).2 (Nat.mod_eq_zero_of_dvd hdvd)) hlow

end Sys2Proof.Machine

/-! ## The one outcome that emits (43_varicode_decoder.md R90) -/

namespace Sys2Proof.Machine

section
variable {w : Nat} {rom : Rom} {r : Regs w} {smp : Sample}

theorem Regs.step_emitted_of_outcome_ne (h : (r.step rom smp).outcome ≠ .emit) : (r.step rom smp).emitted = none := by
  obtain ⟨-, harm⟩ | ⟨-, -, hhold⟩ | ⟨-, -, -, hovf⟩ | ⟨-, -, -, -, hshift⟩ | ⟨-, -, -, -, y, -, hemit⟩ |
    ⟨-, -, -, -, -, hdrop⟩ := r.step_cases rom smp
  · rw [harm]
  · rw [hhold]
  · rw [hovf]
  · rw [hshift]
  · exact absurd (congrArg StepResult.outcome hemit) h
  · rw [hdrop]

theorem Regs.capture_of_outcome_emit (h : (r.step rom smp).outcome = .emit) :
    r.armed = true ∧ ovf r.acc = false ∧ eoc (shifted r.acc smp.data) = true := by
  obtain ⟨-, harm⟩ | ⟨-, -, hhold⟩ | ⟨-, -, -, hovf⟩ | ⟨-, -, -, -, hshift⟩ | ⟨-, ha, ho, he, -⟩ |
    ⟨-, -, -, -, -, hdrop⟩ := r.step_cases rom smp
  · cases harm ▸ h
  · cases hhold ▸ h
  · cases hovf ▸ h
  · cases hshift ▸ h
  · exact ⟨ha, ho, he⟩
  · cases hdrop ▸ h

theorem Regs.emissions_eq_nil_of_outcomes {xs : List Sample} (h : StepOutcome.emit ∉ r.outcomes rom xs) :
    r.emissions rom xs = [] := by
  induction xs generalizing r with
  | nil => rfl
  | cons x xs ih =>
    obtain ⟨hx, hxs⟩ := not_or.1 (mt List.mem_cons.2 h)
    rw [Regs.emissions, Regs.step_emitted_of_outcome_ne (Ne.symm hx), ih hxs]
    rfl

end

end Sys2Proof.Machine

/-! ## The distance between emissions (43_varicode_decoder.md section 5, Spacing of emissions) -/

namespace Sys2Proof.Machine

/-- From the start state no shorter run leaves these registers: two samples for each bit of the accumulator, and one
that armed the latch. `Regs.leastSamples_start` and `Regs.leastSamples_step` say why it is a lower bound. -/
def Regs.leastSamples {w : Nat} (r : Regs w) : Nat := 2 * r.acc.toNat.size + r.armed.toNat

section
variable {w : Nat} (rom : Rom)

theorem Regs.leastSamples_start : (Regs.start w).leastSamples = 0 := by
  simp [Regs.leastSamples, Regs.start]

theorem size_two_mul_add_le (n : Nat) (b : Bool) : (2 * n + b.toNat).size ≤ n.size + 1 := by
  have hlt : n < 2 ^ n.size := Nat.lt_size_self n
  have hb : b.toNat ≤ 1 := b.toNat_le
  rw [Nat.size_le, pow_succ]
  omega

theorem Regs.leastSamples_step (hw : 0 < w) (r : Regs w) (smp : Sample) :
    (r.step rom smp).regs.leastSamples ≤ r.leastSamples + 1 := by
  have hclear : (Regs.mk false (0 : BitVec w)).leastSamples ≤ r.leastSamples + 1 :=
    Regs.leastSamples_start.trans_le (Nat.zero_le _)
  obtain ⟨-, harm⟩ | ⟨-, -, hhold⟩ | ⟨-, -, -, hovf⟩ | ⟨-, ha, ho, -, hshift⟩ | ⟨-, -, -, -, y, -, hemit⟩ |
    ⟨-, -, -, -, -, hdrop⟩ := r.step_cases rom smp
  · simp only [harm, Regs.leastSamples, Bool.toNat_true]
    omega
  · simp only [hhold, Regs.leastSamples, Bool.toNat_false]
    omega
  · rwa [hovf]
  · have hsize := size_two_mul_add_le r.acc.toNat smp.data
    simp only [hshift, Regs.leastSamples, shifted_toNat_of_not_ovf hw ho, ha, Bool.toNat_false, Bool.toNat_true]
    omega
  · rwa [hemit]
  · rwa [hdrop]

/-- The least value that ends a character is 8 (42_bit_accumulator.md R83): it takes three bits in the accumulator and an
armed latch. -/
theorem Regs.step_emitted_of_leastSamples_lt (hw : 0 < w) {r : Regs w} (smp : Sample) (hr : r.leastSamples < 7) :
    (r.step rom smp).emitted = none := by
  refine Regs.step_emitted_of_outcome_ne fun hemit => ?_
  obtain ⟨ha, ho, he⟩ := Regs.capture_of_outcome_emit hemit
  have hle := eight_le_of_eoc he
  rw [shifted_toNat_of_not_ovf hw ho, bit_eq_false_of_eoc hw he, Bool.toNat_false] at hle
  have hsize : 2 < r.acc.toNat.size := Nat.lt_size.2 (by omega)
  rw [Regs.leastSamples, ha, Bool.toNat_true] at hr
  omega

theorem Regs.emissions_of_leastSamples_lt (hw : 0 < w) {r : Regs w} {xs : List Sample}
    (h : r.leastSamples + xs.length < 8) : r.emissions rom xs = [] := by
  induction xs generalizing r with
  | nil => rfl
  | cons x xs ih =>
    rw [List.length_cons] at h
    have hnext := r.leastSamples_step rom hw x
    rw [Regs.emissions, Regs.step_emitted_of_leastSamples_lt rom hw x (by omega), ih (by omega)]
    rfl

end

/-- Settles O30: the start state has taken in nothing, and an emission is the eighth sample at the least. -/
theorem emissionsAreEightStepsApart : Obligations.EmissionsAreEightStepsApart := fun _ rom xs hw hxs =>
  Regs.emissions_of_leastSamples_lt rom (pos_of_legalWidth hw) (by rw [Regs.leastSamples_start, Nat.zero_add]; exact hxs)

end Sys2Proof.Machine

/-! ## How long the accumulator can grow (42_bit_accumulator.md section 4) -/

namespace Sys2Proof.Machine

/-- None of the values that the bits run through, the last one included, ends a character. -/
def Unterminated (bs : List Bool) : Prop := ∀ n, bitsValue (bs.take n) = 0 ∨ bitsValue (bs.take n) % 8 ≠ 0

theorem Unterminated.take {bs : List Bool} (h : Unterminated bs) (n : Nat) : Unterminated (bs.take n) := by
  intro m
  rw [List.take_take]
  exact h _

theorem Unterminated.of_append {bs cs : List Bool} (h : Unterminated (bs ++ cs)) : Unterminated bs := by
  have hbs := h.take bs.length
  rwa [List.take_left] at hbs

theorem Unterminated.eoc_eq_false {w : Nat} {bs : List Bool} {v : BitVec w} (h : Unterminated bs)
    (hv : v.toNat = bitsValue bs) : eoc v = false := by
  rw [Bool.eq_false_iff, ne_eq, eoc_iff_mod, ← BitVec.toNat_ne_iff_ne, hv]
  have hend := h bs.length
  rw [List.take_length] at hend
  rintro ⟨hne, hmod⟩
  exact hend.elim (by simpa using hne) (· hmod)

/-! ### The value of a list of bits -/

theorem bitsValue_lt (bs : List Bool) : bitsValue bs < 2 ^ bs.length := by
  induction bs using List.reverseRecOn with
  | nil => exact Nat.one_pos
  | append_singleton bs b ih =>
    have hb : b.toNat ≤ 1 := b.toNat_le
    rw [bitsValue_append_singleton, List.length_append, List.length_singleton, pow_succ]
    omega

/-- A leading 1 stays the leading bit. -/
theorem two_pow_length_le_bitsValue (bs : List Bool) : 2 ^ bs.length ≤ bitsValue (true :: bs) := by
  induction bs using List.reverseRecOn with
  | nil => exact le_rfl
  | append_singleton bs b ih =>
    rw [← List.cons_append, bitsValue_append_singleton, List.length_append, List.length_singleton, pow_succ]
    omega

theorem log2_bitsValue (bs : List Bool) : Nat.log2 (bitsValue (true :: bs)) = bs.length := by
  have hle := two_pow_length_le_bitsValue bs
  have hpos : 0 < 2 ^ bs.length := Nat.two_pow_pos _
  exact (Nat.log2_eq_iff (by omega)).2 ⟨hle, bitsValue_lt (true :: bs)⟩

/-! ### A run that takes in such bits -/

section
variable {w : Nat} {rom : Rom} {r : Regs w} {acc : BitVec w} {bs : List Bool} {b : Bool}

/-- While there is room, a bit that does not end a character is shifted in, and the value is that of the bits. -/
theorem shift_of_unterminated (hlen : bs.length < w) (h : Unterminated (bs ++ [b])) (hacc : acc.toNat = bitsValue bs) :
    ovf acc = false ∧ eoc (shifted acc b) = false ∧ (shifted acc b).toNat = bitsValue (bs ++ [b]) := by
  have ho : ovf acc = false := by
    have hroom : 2 ^ (bs.length + 1) ≤ 2 ^ w := Nat.pow_le_pow_right Nat.two_pos hlen
    have hlt := bitsValue_lt bs
    rw [pow_succ] at hroom
    exact BitVec.msb_eq_false_iff_two_mul_lt.2 (by omega)
  have hval : (shifted acc b).toNat = bitsValue (bs ++ [b]) := by
    rw [shifted_toNat_of_not_ovf (Nat.zero_lt_of_lt hlen) ho, hacc, bitsValue_append_singleton]
  exact ⟨ho, h.eoc_eq_false hval, hval⟩

theorem Regs.after_unterminated_acc (h0 : r.acc = 0) (hlen : bs.length ≤ w) (h : Unterminated bs) :
    (r.after rom (bitsSamples bs)).acc.toNat = bitsValue bs := by
  induction bs using List.reverseRecOn with
  | nil => exact (congrArg BitVec.toNat h0).trans BitVec.toNat_zero
  | append_singleton bs b ih =>
    rw [List.length_append, List.length_singleton] at hlen
    obtain ⟨ho, he, hval⟩ := shift_of_unterminated hlen h (ih (by omega) h.of_append)
    rw [Regs.after_bits_concat, accNext_of_shift ho he, hval]

theorem Regs.outcomes_bits_concat (rom : Rom) (r : Regs w) (bs : List Bool) (b : Bool) :
    r.outcomes rom (bitsSamples (bs ++ [b])) = r.outcomes rom (bitsSamples bs) ++
      [.arm, ((Regs.mk true (r.after rom (bitsSamples bs)).acc).step rom ⟨false, b⟩).outcome] := by
  rw [bitsSamples_append, Regs.outcomes_append, ← Regs.outcomes_bit]
  rfl

theorem Regs.outcomes_unterminated (h0 : r.acc = 0) (hlen : bs.length ≤ w) (h : Unterminated bs) :
    r.outcomes rom (bitsSamples bs) = (List.replicate bs.length [StepOutcome.arm, .shift]).flatten := by
  induction bs using List.reverseRecOn with
  | nil => rfl
  | append_singleton bs b ih =>
    rw [List.length_append, List.length_singleton] at hlen
    have hbs := h.of_append
    have hacc := Regs.after_unterminated_acc (rom := rom) h0 (by omega) hbs
    obtain ⟨ho, he, -⟩ := shift_of_unterminated hlen h hacc
    rw [Regs.outcomes_bits_concat, ih (by omega) hbs, Regs.capture_of_shift rom ho he]
    simp [List.replicate_succ']

theorem Regs.after_bits_armed (hne : bs ≠ []) : (r.after rom (bitsSamples bs)).armed = false := by
  obtain rfl | ⟨cs, b, rfl⟩ := List.eq_nil_or_concat' bs
  · exact absurd rfl hne
  · rw [Regs.after_bits_concat]

/-- `W` bits that begin with a 1 fill the accumulator. -/
theorem Regs.ovf_after_unterminated (h0 : r.acc = 0) (hlen : (true :: bs).length = w) (h : Unterminated (true :: bs)) :
    ovf (r.after rom (bitsSamples (true :: bs))).acc = true := by
  refine BitVec.msb_eq_true_iff_two_mul_ge.2 ?_
  have hle := two_pow_length_le_bitsValue bs
  rw [Regs.after_unterminated_acc h0 hlen.le h, ← hlen, List.length_cons, pow_succ]
  omega

end

/-- Settles O31: the accumulator is the value of the bits so far, which fits until its leading 1 is at bit `W - 1`; then
the next capture is OVF. -/
theorem unterminatedBurstOverflowsAfterWBits : Obligations.UnterminatedBurstOverflowsAfterWBits := by
  intro w rom a bs b _ hlen hhead hunterminated
  obtain ⟨cs, rfl⟩ : ∃ cs, bs = true :: cs := by
    cases bs with
    | nil => cases hhead
    | cons c cs => exact ⟨cs, by rw [Option.some.inj hhead]⟩
  have h : Unterminated (true :: cs) := hunterminated
  have ho := Regs.ovf_after_unterminated (rom := rom) (r := ⟨a, 0⟩) rfl hlen h
  have houtcomes : (Regs.mk a (0 : BitVec w)).outcomes rom (bitsSamples (true :: cs ++ [b])) =
      (List.replicate w [StepOutcome.arm, .shift]).flatten ++ [.arm, .ovf] := by
    rw [Regs.outcomes_bits_concat, Regs.outcomes_unterminated rfl hlen.le h, hlen, Regs.capture_of_ovf rom ho b]
  refine ⟨fun n hn hnw => ⟨?armed, ?acc, ?leading⟩, houtcomes, ?cleared, ?silent⟩
  case armed => exact Regs.after_bits_armed (by simp [hn.ne'])
  case acc => exact Regs.after_unterminated_acc rfl ((List.length_take_le _ _).trans hnw) (h.take n)
  case leading =>
    obtain ⟨m, rfl⟩ := Nat.exists_eq_succ_of_ne_zero hn.ne'
    rw [List.length_cons] at hlen
    rw [List.take_succ_cons, log2_bitsValue, List.length_take]
    omega
  case cleared =>
    rw [Regs.after_bits_concat, accNext_of_ovf ho, Regs.start]
  case silent =>
    refine Regs.emissions_eq_nil_of_outcomes ?_
    rw [houtcomes]
    simp

end Sys2Proof.Machine

/-! ## Each row of the operation map completes as the step function (43_varicode_decoder.md R90 to R96) -/

namespace Sys2Proof

@[simp] theorem sampleOfWord_wordOfBits (clock data : Bool) : sampleOfWord (wordOfBits clock data) = ⟨clock, data⟩ := by
  simp [sampleOfWord]

end Sys2Proof

namespace Sys2Proof.Machine

section
variable (s : State)

/-- A row of format S processes the sample of its own word. -/
theorem exec_of_format_sample {i : Instr} (hi : formatOf i = .sample) :
    exec i s = .next (s.sampled (sampleOfWord (encode i))) := by
  cases i with
  | arm data => rw [exec_arm, encode, sampleOfWord_wordOfBits]
  | hold data => rw [exec_hold, encode, sampleOfWord_wordOfBits]
  | shift data => rw [exec_shift, encode, sampleOfWord_wordOfBits]
  | emit => rw [exec_emit, encode, sampleOfWord_wordOfBits]
  | drop => rw [exec_drop, encode, sampleOfWord_wordOfBits]
  | ovf data => rw [exec_ovf, encode, sampleOfWord_wordOfBits]
  | _ => cases hi

/-- A row of format PORT writes the two registers and emits nothing. -/
theorem exec_of_format_port {i : Instr} (hi : formatOf i = .port) : ∃ a c, exec i s = .next (s.commit a c none) := by
  cases i with
  | reset en => exact ⟨false, 0, rfl⟩
  | idle => exact ⟨s.armed, s.acc, rfl⟩
  | _ => cases hi

/-- The row the map selects for a sample is the one its word decodes to, and commits what the step function answers. -/
theorem selected_row_commits {smp : Sample} {i : Instr} {a : Bool} {c : Acc} {e : Option Symbol}
    (hsel : selectSample smp (sampleConditions s smp) = i) (hcommit : s.sampled smp = s.commit a c e) :
    decode .sample (sampleConditions s smp) (sampleWord smp) = .ok i ∧
      ∃ t, exec i s = .next t ∧ s.Committed t a c e := by
  subst hsel
  exact ⟨decodeSample_sampleWord s smp, _, exec_selectSample s smp _, hcommit ▸ s.commit_committed a c e⟩

end

/-! ### The value a capture of 0 completes -/

section
variable {acc : Acc}

/-- A capture of 0 that ends a character, as arithmetic on the accumulator. -/
theorem eoc_shifted_zero (ho : Machine.ovf acc = false) (hne : acc ≠ 0) (hmod : 2 * acc.toNat % 8 = 0) :
    eoc (shifted acc false) = true := by
  have hval : (shifted acc false).toNat = 2 * acc.toNat := shifted_toNat_of_not_ovf (by decide) ho
  have hpos : acc.toNat ≠ 0 := BitVec.toNat_ne_iff_ne.2 hne
  rw [eoc_iff_mod, ← BitVec.toNat_ne_iff_ne, hval]
  exact ⟨mul_ne_zero two_ne_zero hpos, hmod⟩

/-- With half a key in the accumulator, a capture of 0 does not overflow, ends a character and finds the key's symbol. -/
theorem capture_completes_key {e : RomEntry} (he : e ∈ defaultRom) (hkey : 2 * acc.toNat = e.key) :
    Machine.ovf acc = false ∧ eoc (shifted acc false) = true ∧ romRead defaultRom (shifted acc false) = some e.sym := by
  obtain ⟨hlt, hmod, hnonzero⟩ := defaultRom_keys e he
  have ho : Machine.ovf acc = false :=
    BitVec.msb_eq_false_iff_two_mul_lt.2 (by rw [hkey]; exact hlt.trans (by decide))
  have hne : acc ≠ 0 := by
    rintro rfl
    exact hnonzero hkey.symm
  have hval : (shifted acc false).toNat = 2 * acc.toNat := shifted_toNat_of_not_ovf (by decide) ho
  exact ⟨ho, eoc_shifted_zero ho hne (hkey ▸ hmod), romRead_of_mem defaultRom_nodup he (hval.trans hkey).symm⟩

/-- The edge that captures the last bit of a key delivers its symbol over cleared registers. -/
theorem State.sampled_completes_key {s : State} {e : RomEntry} (he : e ∈ defaultRom) (ha : s.armed = true)
    (hkey : 2 * s.acc.toNat = e.key) : s.sampled ⟨false, false⟩ = s.commit false 0 (some e.sym) := by
  obtain ⟨ho, hend, hread⟩ := capture_completes_key he hkey
  rw [s.sampled_low_of_eoc false ha ho hend, hread]

end

/-! ### The statements of 43_varicode_decoder.md sections 2 and 4 -/

/-- Settles O7: the row an edge selects processes what the edge presents. -/
theorem everyEdgeIsThePortUpdate : Obligations.EveryEdgeIsThePortUpdate := step_eq_clocked

/-- Settles O9: format by format, each row's own effect is the step function's where its condition holds. -/
theorem rowsProcessTheirSampleAsTheStepFunction : Obligations.RowsProcessTheirSampleAsTheStepFunction := fun _ s =>
  ⟨exec_of_format_sample s, exec_of_format_key s⟩

/-- Settles O8: a row processes a sample or writes the registers, and either leaves the inputs to come. -/
theorem everyRowCompletesInEveryState : Obligations.EveryRowCompletesInEveryState := by
  intro i s
  cases hi : formatOf i with
  | sample => exact ⟨_, exec_of_format_sample s hi, s.sampled_edges _⟩
  | port =>
    obtain ⟨a, c, h⟩ := exec_of_format_port s hi
    exact ⟨_, h, s.commit_edges a c none⟩
  | key => exact ⟨_, exec_of_format_key s hi, s.sampled_edges _⟩

/-- Settles O11: ARM asks nothing of the columns, and is the write of a high sample. -/
theorem armSetsTheLatch : Obligations.ArmSetsTheLatch := fun data c s =>
  ⟨Laws.EncodeDecodes.arm data c rfl, _, rfl, s.commit_committed true s.acc none⟩

/-- Settles O12: a low sample that finds `armed = 0`. -/
theorem holdChangesNothing : Obligations.HoldChangesNothing := fun data s ha =>
  selected_row_commits s (smp := ⟨false, data⟩) (selectSample_of_not_armed rfl ha) (s.sampled_low_of_not_armed data ha)

/-- Settles O13: without overflow the shifted value is `2 * acc + b` itself, and its end-of-character test fails. -/
theorem shiftTakesInTheBit : Obligations.ShiftTakesInTheBit := by
  intro b s ha ho hend
  have hval : (shifted s.acc b).toNat = 2 * s.acc.toNat + b.toNat := shifted_toNat_of_not_ovf (by decide) ho
  have hword : BitVec.ofNat Config.W (2 * s.acc.toNat + b.toNat) = shifted s.acc b := by
    rw [← hval, BitVec.ofNat_toNat, BitVec.setWidth_eq]
  have he : eoc (shifted s.acc b) = false := by
    rw [Bool.eq_false_iff, ne_eq, eoc_iff_mod, ← BitVec.toNat_ne_iff_ne, hval]
    rintro ⟨hne, hmod⟩
    exact hend.elim hne (· hmod)
  obtain ⟨hdecode, t, hexec, hcommitted⟩ := selected_row_commits s (smp := ⟨false, b⟩)
    (selectSample_of_not_eoc rfl ha ho (.inl he)) (s.sampled_low_of_not_eoc b ha ho he)
  rw [hword]
  refine ⟨hdecode, t, hexec, hcommitted, ?_⟩
  obtain ⟨-, hacc, -⟩ := hcommitted
  rw [hacc, hval]

/-- Settles O14: half of the key is in the accumulator, so the capture of 0 completes it. -/
theorem emitDeliversTheSymbol : Obligations.EmitDeliversTheSymbol := by
  intro e s he ha hkey
  obtain ⟨ho, hend, hread⟩ := capture_completes_key he hkey
  have hhit : hit defaultRom (shifted s.acc false) = true := Option.isSome_of_mem hread
  exact selected_row_commits s (smp := ⟨false, false⟩) (selectSample_of_hit rfl ha ho ⟨hend, rfl⟩ hhit)
    (State.sampled_completes_key he ha hkey)

/-- Settles O15: the row's word is its entry's key, and the row processes the capture of 0 that completes it. -/
theorem romRowDeliversItsSymbol : Obligations.RomRowDeliversItsSymbol := by
  intro i e s hentry ha hkey
  have hformat : formatOf i = .key := (exists_romEntryOf_iff i).1 ⟨e, hentry⟩
  obtain ⟨e', -, hkey', hentry'⟩ := exists_entry_of_decodeKey (decodeKey_encode hformat)
  obtain rfl := Option.some.inj (hentry.symm.trans hentry')
  refine ⟨hkey'.symm, _, exec_of_format_key s hformat, ?_⟩
  rw [State.sampled_completes_key (romEntryOf_mem hentry) ha hkey]
  exact s.commit_committed false 0 (some e.sym)

/-- Settles O16: the capture of 0 ends a character, and the lookup misses. -/
theorem dropClearsSilently : Obligations.DropClearsSilently := by
  intro s ha ho hne hmod hmiss
  have hend := eoc_shifted_zero ho hne hmod
  have hval : (shifted s.acc false).toNat = 2 * s.acc.toNat := shifted_toNat_of_not_ovf (by decide) ho
  have hread : romRead defaultRom (shifted s.acc false) = none := by
    rw [romRead_none_iff, hval]
    exact hmiss
  have hhit : hit defaultRom (shifted s.acc false) = false := by rw [hit, hread]; rfl
  have hcommit := s.sampled_low_of_eoc false ha ho hend
  rw [hread] at hcommit
  obtain ⟨hdecode, hexec⟩ :=
    selected_row_commits s (smp := ⟨false, false⟩) (selectSample_of_miss rfl ha ho ⟨hend, rfl⟩ hhit) hcommit
  exact ⟨hdecode, rfl, hexec⟩

/-- Settles O17: the overflow test comes before the shift, so the data bit is not read. -/
theorem overflowClearsSilently : Obligations.OverflowClearsSilently := by
  intro data s ha ho
  obtain ⟨hdecode, hexec⟩ :=
    selected_row_commits s (smp := ⟨false, data⟩) (selectSample_of_ovf rfl ha ho) (s.sampled_low_of_ovf data ha ho)
  exact ⟨hdecode, rfl, hexec⟩

end Sys2Proof.Machine

/-! ## What a step emits, and when (43_varicode_decoder.md R98, R103, R104) -/

namespace Sys2Proof.Machine

section
variable {w : Nat} (rom : Rom) (r : Regs w) (smp : Sample)

/-- The lookup's share of a step: it is read at a capture without overflow that ends a character
(43_varicode_decoder.md R98). -/
theorem Regs.step_emitted :
    (r.step rom smp).emitted =
      if capture true smp.clock r.armed && !Machine.ovf r.acc && eoc (shifted r.acc smp.data) then
        romRead rom (shifted r.acc smp.data) else none := by
  obtain ⟨hc, h⟩ | ⟨hc, ha, h⟩ | ⟨hc, ha, ho, h⟩ | ⟨hc, ha, ho, he, h⟩ | ⟨hc, ha, ho, he, y, hy, h⟩ |
    ⟨hc, ha, ho, he, hy, h⟩ := r.step_cases rom smp
  · simp [h, capture, hc]
  · simp [h, capture, ha]
  · simp [h, ho]
  · simp [h, he]
  · simp [h, capture, hc, ha, ho, he, hy]
  · simp [h, hy]

variable {rom r smp}

theorem Regs.step_emitted_of_no_eoc
    (h : smp.clock = false → r.armed = true → Machine.ovf r.acc = false → eoc (shifted r.acc smp.data) = false) :
    (r.step rom smp).emitted = none := by
  rw [Regs.step_emitted, if_neg]
  simp only [Bool.and_eq_true, capture_eq_true_iff, Bool.not_eq_true', not_and, Bool.not_eq_true]
  rintro ⟨⟨hc, ha⟩, ho⟩
  exact h hc ha ho

theorem Regs.step_emitted_of_not_armed (ha : r.armed = false) : (r.step rom smp).emitted = none :=
  Regs.step_emitted_of_no_eoc fun _ ha' => absurd ha' (by simp [ha])

theorem Regs.step_outcome_of_not_armed (ha : r.armed = false) :
    (r.step rom smp).outcome = .arm ∨ (r.step rom smp).outcome = .hold := by
  cases hc : smp.clock with
  | true => exact .inl (by simp [Regs.step, hc])
  | false => exact .inr (by simp [Regs.step, hc, ha])

/-- A step that ends a character or overflows clears both registers. -/
theorem Regs.step_regs_of_outcome
    (h : (r.step rom smp).outcome = .emit ∨ (r.step rom smp).outcome = .drop ∨ (r.step rom smp).outcome = .ovf) :
    (r.step rom smp).regs = Regs.start w := by
  obtain ⟨-, harm⟩ | ⟨-, -, hhold⟩ | ⟨-, -, -, hovf⟩ | ⟨-, -, -, -, hshift⟩ | ⟨-, -, -, -, y, -, hemit⟩ |
    ⟨-, -, -, -, -, hdrop⟩ := r.step_cases rom smp
  · simp [harm] at h
  · simp [hhold] at h
  · rw [hovf, Regs.start]
  · simp [hshift] at h
  · rw [hemit, Regs.start]
  · rw [hdrop, Regs.start]

end

/-- Settles O10: each part gives its share of the step; with no step the strobe is 0. -/
theorem partsComposeToTheStep : Obligations.PartsComposeToTheStep := by
  intro w rom smp r
  constructor
  · have hregs : (r.step rom smp).regs =
        ⟨armedNext true smp.clock r.armed, accNext (capture true smp.clock r.armed) smp.data r.acc⟩ :=
      congrArg₂ Regs.mk ((r.step_armed rom smp).trans (armedNext_step _ _).symm) (r.step_acc rom smp)
    rw [wired, hregs, Regs.step_emitted]
  · rfl

/-- Settles O28: the step clears the registers, and with `armed = 0` nothing is captured. -/
theorem endOfCharacterLeavesTheStartState : Obligations.EndOfCharacterLeavesTheStartState := by
  intro w rom r smp next h
  have hstart := Regs.step_regs_of_outcome h
  exact ⟨hstart, Regs.step_outcome_of_not_armed (by rw [hstart]; rfl)⟩

/-! ### Runs without an end of character (43_varicode_decoder.md R103) -/

section
variable {w : Nat} {rom : Rom} {r : Regs w}

theorem Regs.emissions_of_no_eoc {xs : List Sample}
    (h : ∀ ys x zs, xs = ys ++ x :: zs → x.clock = false → (r.after rom ys).armed = true →
      Machine.ovf (r.after rom ys).acc = false → eoc (shifted (r.after rom ys).acc x.data) = false) :
    r.emissions rom xs = [] := by
  induction xs generalizing r with
  | nil => rfl
  | cons x xs ih =>
    have hhead : (r.step rom x).emitted = none := Regs.step_emitted_of_no_eoc (h [] x xs rfl)
    have htail : (r.step rom x).regs.emissions rom xs = [] :=
      ih fun ys y zs hxs => h (x :: ys) y zs (congrArg (x :: ·) hxs)
    rw [Regs.emissions, hhead, htail]
    rfl

theorem Regs.symbolsTo_of_no_eoc {xs : Nat → Sample}
    (h : ∀ n, (xs n).clock = false → (r.stateAt rom xs n).armed = true →
      Machine.ovf (r.stateAt rom xs n).acc = false → eoc (shifted (r.stateAt rom xs n).acc (xs n).data) = false)
    (n : Nat) : r.symbolsTo rom xs n = [] := by
  induction n with
  | zero => rfl
  | succ n ih =>
    rw [Regs.symbolsTo_succ, ih, Regs.resultAt, Regs.step_emitted_of_no_eoc (h n)]
    rfl

theorem Regs.step_of_ovf {smp : Sample} (hc : smp.clock = false) (ha : r.armed = true) (ho : Machine.ovf r.acc = true) :
    r.step rom smp = ⟨⟨false, 0⟩, none, .ovf⟩ := by
  simp [Regs.step, hc, ha, ho]

end

/-- Settles O27: a step emits at a capture that ends a character only, so by induction on the run none of its steps
emits. -/
theorem noEndOfCharacterNoSymbol : Obligations.NoEndOfCharacterNoSymbol := by
  intro w rom r
  refine ⟨fun xs h => Regs.emissions_of_no_eoc h, fun xs h k y => ?infinite, fun x hc ha ho => ?overflow⟩
  case infinite =>
    rintro ⟨n, hn⟩
    rw [Regs.symbolsTo_of_no_eoc h] at hn
    cases hn
  case overflow =>
    rw [Regs.step_of_ovf hc ha ho]
    exact ⟨rfl, rfl⟩

end Sys2Proof.Machine

/-! ## The strobe of the outputs and idle cycles (43_varicode_decoder.md R100, R101) -/

namespace Sys2Proof.Machine

section
variable {s : State}

theorem State.clocked_symValid_of_not_armed (ha : s.armed = false) (p : Edge) : (s.clocked p).symValid = false := by
  obtain ⟨-, hreset⟩ | ⟨-, -, hsample⟩ | ⟨-, -, hidle⟩ := s.clocked_cases p
  · rw [hreset]
    rfl
  · have hnone : (s.regs.step defaultRom (edgeSample p)).emitted = none := Regs.step_emitted_of_not_armed ha
    rw [hsample, State.sampled, State.commit_symValid, hnone]
    rfl
  · rw [hidle]
    rfl

/-- An edge that emits clears the latch. -/
theorem State.clocked_armed_of_symValid {p : Edge} (h : (s.clocked p).symValid = true) :
    (s.clocked p).armed = false := by
  obtain ⟨a, hkeep⟩ | hclear | ⟨b, -, -, hshift⟩ | ⟨e, -, hemit⟩ := s.clocked_writes p
  · rw [hkeep] at h
    cases h
  · rw [hclear] at h
    cases h
  · rw [hshift] at h
    cases h
  · rw [hemit]
    rfl

end

/-- Settles O39: the edge that emits leaves `armed = 0`, and the edge after it captures nothing. -/
theorem symValidIsAOneCyclePulse : Obligations.SymValidIsAOneCyclePulse := by
  intro s t u hst htu hv
  rw [eq_clocked_of_step hst] at hv
  have ha : t.consumeEdge.armed = false := by
    rw [State.consumeEdge_armed, eq_clocked_of_step hst]
    exact State.clocked_armed_of_symValid hv
  rw [eq_clocked_of_step htu]
  exact State.clocked_symValid_of_not_armed ha t.edge

/-! ### A host that presents nothing -/

/-- At every edge to come the host presents neither a reset nor a sample. -/
def State.HostIdle (s : State) : Prop := ∀ p ∈ s.edges, p.rst = false ∧ p.sampleEn = false

section
variable {s : State}

theorem State.HostIdle.edge (h : s.HostIdle) : s.edge.rst = false ∧ s.edge.sampleEn = false := by
  unfold State.edge
  cases hs : s.edges with
  | nil => exact ⟨rfl, rfl⟩
  | cons p ps => exact h p (by simp [hs])

theorem State.HostIdle.consumeEdge_commit (h : s.HostIdle) (a : Bool) (c : Acc) (e : Option Symbol) :
    (s.consumeEdge.commit a c e).HostIdle := fun p hp => h p (List.mem_of_mem_tail hp)

theorem step_of_hostIdle (h : s.HostIdle) : step s = .next (s.consumeEdge.commit s.armed s.acc none) := by
  obtain ⟨hr, he⟩ := h.edge
  rw [step_eq_clocked]
  simp [State.clocked, hr, he]

theorem State.observe_of_hostIdle (h : s.HostIdle) (n : Nat) : s.observe n = [] := by
  induction n generalizing s with
  | zero => rfl
  | succ n ih =>
    rw [State.observe_succ (step_of_hostIdle h), ih (h.consumeEdge_commit _ _ _), State.commit_offered]
    rfl

/-- `sym_valid` is 0 after the first idle cycle, and stays 0. -/
theorem run_of_hostIdle (h : s.HostIdle) (n : Nat) :
    ∃ t, Sys2Proof.core.run n s = .next t ∧ t.regs = s.regs ∧ (n ≠ 0 ∨ s.symValid = false → t.symValid = false) := by
  induction n generalizing s with
  | zero => exact ⟨s, rfl, rfl, fun hv => hv.resolve_left (· rfl)⟩
  | succ n ih =>
    obtain ⟨t, hrun, hregs, hvalid⟩ := ih (h.consumeEdge_commit s.armed s.acc none)
    exact ⟨t, (core_run_succ (step_of_hostIdle h) n).trans hrun, hregs, fun _ => hvalid (.inr rfl)⟩

end

/-- Settles O19: an idle cycle rewrites the registers with their own values, and leaves the host idle. -/
theorem idleKeepsTheRegisters : Obligations.IdleKeepsTheRegisters := by
  refine ⟨fun s => ⟨_, rfl, s.commit_committed s.armed s.acc none⟩, fun n s h => ?_⟩
  obtain ⟨t, hrun, hregs, hvalid⟩ := run_of_hostIdle h n
  exact ⟨State.observe_of_hostIdle h n, t, hrun, hregs, fun hn => hvalid (.inl hn)⟩

end Sys2Proof.Machine

/-! ## The width of the accumulator (60_exceptions.md section 2) -/

namespace Sys2Proof.Machine

/-- The same registers with an accumulator of another width. -/
def Regs.widen {w : Nat} (r : Regs w) (w' : Nat) : Regs w' := ⟨r.armed, r.acc.setWidth w'⟩

section
variable {w w' : Nat}

theorem Regs.start_widen : (Regs.start w).widen w' = Regs.start w' := by
  simp [Regs.start, Regs.widen]

theorem ovf_setWidth (hle : w ≤ w') {acc : BitVec w} (ho : ovf acc = false) : ovf (acc.setWidth w') = false := by
  have hlt : 2 * acc.toNat < 2 ^ w := BitVec.msb_eq_false_iff_two_mul_lt.1 ho
  refine BitVec.msb_eq_false_iff_two_mul_lt.2 ?_
  rw [BitVec.toNat_setWidth_of_le hle]
  exact hlt.trans_le (Nat.pow_le_pow_right Nat.two_pos hle)

theorem shifted_setWidth (hw : 0 < w) (hle : w ≤ w') {acc : BitVec w} (ho : ovf acc = false) (b : Bool) :
    shifted (acc.setWidth w') b = (shifted acc b).setWidth w' := by
  apply BitVec.eq_of_toNat_eq
  rw [shifted_toNat_of_not_ovf (hw.trans_le hle) (ovf_setWidth hle ho), BitVec.toNat_setWidth_of_le hle,
    BitVec.toNat_setWidth_of_le hle, shifted_toNat_of_not_ovf hw ho]

theorem eoc_setWidth (hle : w ≤ w') (v : BitVec w) : eoc (v.setWidth w') = eoc v := by
  rw [Bool.eq_iff_iff, eoc_iff_mod, eoc_iff_mod, ← BitVec.toNat_ne_iff_ne, ← BitVec.toNat_ne_iff_ne,
    BitVec.toNat_setWidth_of_le hle]
  rfl

theorem romRead_setWidth (hle : w ≤ w') (rom : Rom) (v : BitVec w) : romRead rom (v.setWidth w') = romRead rom v := by
  rw [romRead, romRead, BitVec.toNat_setWidth_of_le hle]

/-- A step that does not overflow does the same at every greater width. -/
theorem Regs.step_widen (hw : 0 < w) (hle : w ≤ w') {rom : Rom} {r : Regs w} {smp : Sample}
    (h : (r.step rom smp).outcome ≠ .ovf) :
    (r.widen w').step rom smp =
      ⟨(r.step rom smp).regs.widen w', (r.step rom smp).emitted, (r.step rom smp).outcome⟩ := by
  obtain ⟨hc, harm⟩ | ⟨hc, ha, hhold⟩ | ⟨-, -, -, hovf⟩ | ⟨hc, ha, ho, he, hshift⟩ | ⟨hc, ha, ho, he, y, hy, hemit⟩ |
    ⟨hc, ha, ho, he, hy, hdrop⟩ := r.step_cases rom smp
  · rw [harm]
    simp [Regs.step, Regs.widen, hc]
  · rw [hhold]
    simp [Regs.step, Regs.widen, hc, ha]
  · exact absurd (congrArg StepResult.outcome hovf) h
  · rw [hshift]
    simp [Regs.step, Regs.widen, hc, ha, ovf_setWidth hle ho, shifted_setWidth hw hle ho, eoc_setWidth hle, he]
  · rw [hemit]
    simp [Regs.step, Regs.widen, hc, ha, ovf_setWidth hle ho, shifted_setWidth hw hle ho, eoc_setWidth hle, he,
      romRead_setWidth hle, hy]
  · rw [hdrop]
    simp [Regs.step, Regs.widen, hc, ha, ovf_setWidth hle ho, shifted_setWidth hw hle ho, eoc_setWidth hle, he,
      romRead_setWidth hle, hy]

theorem Regs.run_widen (hw : 0 < w) (hle : w ≤ w') {rom : Rom} {r : Regs w} {xs : List Sample}
    (h : StepOutcome.ovf ∉ r.outcomes rom xs) :
    (r.widen w').emissions rom xs = r.emissions rom xs ∧ (r.widen w').outcomes rom xs = r.outcomes rom xs := by
  induction xs generalizing r with
  | nil => exact ⟨rfl, rfl⟩
  | cons x xs ih =>
    obtain ⟨hx, hxs⟩ := not_or.1 (mt List.mem_cons.2 h)
    obtain ⟨hemissions, houtcomes⟩ := ih hxs
    have hstep := Regs.step_widen hw hle (Ne.symm hx)
    simp only [Regs.emissions, Regs.outcomes, hstep, hemissions, houtcomes, and_self]

end

/-- Settles O32: by induction on the run, each step being the same at both widths. -/
theorem widthMattersOnlyWithOverflow : Obligations.WidthMattersOnlyWithOverflow := fun _ _ _ _ _ hw hle h =>
  Regs.run_widen (pos_of_legalWidth hw) hle h

/-- A run from the start state that does not overflow at the least legal width emits the same at every legal width. -/
theorem Regs.emissions_start_of_least {w : Nat} (hw : legalWidth w = true) {rom : Rom} {xs : List Sample}
    (h : StepOutcome.ovf ∉ (Regs.start Config.keyMaxBits).outcomes rom xs) :
    (Regs.start w).emissions rom xs = (Regs.start Config.keyMaxBits).emissions rom xs := by
  obtain ⟨hemissions, -⟩ := Regs.run_widen (w' := w) (by decide) (of_decide_eq_true hw) h
  rwa [Regs.start_widen] at hemissions

/-- Settles O33: neither run overflows at the least legal width, where the block drops the one value 0b110011000 of the
first run and emits twice in the second. -/
theorem twoZerosDoNotSeparate : Obligations.TwoZerosDoNotSeparate := by
  intro w hw
  constructor
  · rw [Regs.emissions_start_of_least hw (by decide)]
    decide
  · rw [Regs.emissions_start_of_least hw (by decide)]
    decide

end Sys2Proof.Machine

/-! ## Every key decodes from its own bits (43_varicode_decoder.md R102) -/

namespace Sys2Proof

/-- What a legal ROM asks of the code of each key (30_encoding.md R44 item 10). -/
theorem Rom.code_of_legal {rom : Rom} {e : RomEntry} (h : rom.legal = true) (he : e ∈ rom) :
    (e.key >>> 3) % 2 = 1 ∧ ∀ i < Config.keyMaxBits, e.key >>> (3 + i) = 0 ∨ (e.key >>> (3 + i)) % 8 ≠ 0 := by
  rw [Rom.legal, Bool.and_eq_true] at h
  obtain ⟨-, hcodes⟩ := h
  obtain ⟨hodd, hzeros⟩ := Bool.and_eq_true_iff.1 (List.all_eq_true.1 hcodes e he)
  refine ⟨beq_iff_eq.1 hodd, fun i hi => ?_⟩
  simpa using List.all_eq_true.1 hzeros i (List.mem_range.2 hi)

end Sys2Proof

namespace Sys2Proof.Machine

/-! ### The bits of a key -/

theorem keyBits_of_lt_two {k : Nat} (hk : k < 2) : keyBits k = [k.testBit 0] := by
  interval_cases k <;> rfl

theorem keyBits_of_two_le {k : Nat} (hk : 2 ≤ k) : keyBits k = keyBits (k / 2) ++ [k.testBit 0] := by
  have hlog : Nat.log2 k = Nat.log2 (k / 2) + 1 := by rw [Nat.log2_def, if_pos hk]
  rw [keyBits, keyBits, hlog, List.range_succ_eq_map]
  simp [Function.comp_def, Nat.testBit_succ]

@[simp] theorem keyBits_length (k : Nat) : (keyBits k).length = Nat.log2 k + 1 := by
  simp [keyBits]

theorem bitsValue_keyBits (k : Nat) : bitsValue (keyBits k) = k := by
  induction k using Nat.strongRecOn with
  | ind k ih =>
    rcases Nat.lt_or_ge k 2 with hk | hk
    · interval_cases k <;> rfl
    · rw [keyBits_of_two_le hk, bitsValue_append_singleton, ih (k / 2) (by omega), Nat.toNat_testBit, pow_zero,
        Nat.div_one]
      omega

/-- The first bits of a number are the number with its last bits cut off. -/
theorem exists_bitsValue_take_keyBits (k n : Nat) : ∃ i, bitsValue ((keyBits k).take n) = k >>> i := by
  induction k using Nat.strongRecOn generalizing n with
  | ind k ih =>
    rcases Nat.lt_or_ge n (keyBits k).length with hn | hn
    · rcases Nat.lt_or_ge k 2 with hk | hk
      · rw [keyBits_of_lt_two hk, List.length_singleton, Nat.lt_one_iff] at hn
        subst hn
        exact ⟨1, by rw [Nat.shiftRight_eq_zero k 1 hk]; rfl⟩
      · rw [keyBits_of_two_le hk] at hn ⊢
        rw [List.length_append, List.length_singleton] at hn
        obtain ⟨i, hi⟩ := ih (k / 2) (by omega) n
        exact ⟨1 + i, by rw [List.take_append_of_le_length (by omega), hi, Nat.shiftRight_add]; rfl⟩
    · exact ⟨0, by rw [List.take_of_length_le hn, bitsValue_keyBits]; rfl⟩

theorem unterminated_keyBits {k : Nat} (h : ∀ i, k >>> i = 0 ∨ (k >>> i) % 8 ≠ 0) : Unterminated (keyBits k) := by
  intro n
  obtain ⟨i, hi⟩ := exists_bitsValue_take_keyBits k n
  rw [hi]
  exact h i

/-! ### The bits of a key of a legal ROM, but its last -/

section
variable {w : Nat} {rom : Rom} {e : RomEntry}

/-- No value that the bits of a key run through before its last ends a character: the code has no three zeros inside
and ends in a 1, and only two of the key's three zeros are taken in. -/
theorem unterminated_half_key (h : rom.legal = true) (he : e ∈ rom) : Unterminated (keyBits (e.key / 2)) := by
  obtain ⟨-, -, hlt⟩ := Rom.key_of_legal h he
  obtain ⟨hodd, hzeros⟩ := Rom.code_of_legal h he
  refine unterminated_keyBits fun i => ?_
  have hcut : (e.key / 2) >>> i = e.key >>> (1 + i) := (Nat.shiftRight_add e.key 1 i).symm
  rw [hcut]
  rw [Nat.shiftRight_eq_div_pow] at hodd
  match i with
  | 0 => exact .inr (by rw [Nat.shiftRight_eq_div_pow]; omega)
  | 1 => exact .inr (by rw [Nat.shiftRight_eq_div_pow]; omega)
  | j + 2 =>
    rw [show 1 + (j + 2) = 3 + j by omega]
    rcases Nat.lt_or_ge j Config.keyMaxBits with hj | hj
    · exact hzeros j hj
    · have hle : 2 ^ Config.keyMaxBits ≤ 2 ^ (3 + j) := Nat.pow_le_pow_right Nat.two_pos (by omega)
      exact .inl (Nat.shiftRight_eq_zero _ _ (hlt.trans_le hle))

/-- A key without its last bit leaves room for it at every legal width. -/
theorem length_half_key_lt (hw : legalWidth w = true) (h : rom.legal = true) (he : e ∈ rom) :
    (keyBits (e.key / 2)).length < w := by
  obtain ⟨hnonzero, hmod, hbounded⟩ := Rom.key_of_legal h he
  have hlt : e.key < 2 ^ 13 := hbounded
  have hle : 13 ≤ w := of_decide_eq_true hw
  have hlog : Nat.log2 (e.key / 2) < 12 := (Nat.log2_lt (by omega)).2 (by omega)
  rw [keyBits_length]
  omega

/-- A key is its half and a last bit 0. -/
theorem keyBits_of_legal (h : rom.legal = true) (he : e ∈ rom) :
    keyBits e.key = keyBits (e.key / 2) ++ [false] := by
  obtain ⟨hnonzero, hmod, -⟩ := Rom.key_of_legal h he
  have hlast : e.key.testBit 0 = false := by
    rw [Nat.testBit_zero, decide_eq_false_iff_not]
    omega
  rw [keyBits_of_two_le (by omega), hlast]

/-! ### The run of a key -/

/-- The capture of 0 with half a key in the accumulator is the EMIT step of its entry, at every legal width. -/
theorem Regs.capture_of_half_key (hw : legalWidth w = true) (h : rom.legal = true) (he : e ∈ rom) {acc : BitVec w}
    (hacc : acc.toNat = e.key / 2) :
    (Regs.mk true acc).step rom ⟨false, false⟩ = ⟨Regs.start w, some e.sym, .emit⟩ := by
  obtain ⟨hnonzero, hmod, hlt⟩ := Rom.key_of_legal h he
  have hfits : e.key < 2 ^ w := hlt.trans_le (Nat.pow_le_pow_right Nat.two_pos (of_decide_eq_true hw))
  have ho : ovf acc = false := BitVec.msb_eq_false_iff_two_mul_lt.2 (by omega)
  have hval : (shifted acc false).toNat = e.key := by
    rw [shifted_toNat_of_not_ovf (pos_of_legalWidth hw) ho, hacc, Bool.toNat_false]
    omega
  have hend : eoc (shifted acc false) = true := by
    rw [eoc_iff_mod, ← BitVec.toNat_ne_iff_ne, hval]
    exact ⟨hnonzero, hmod⟩
  have hread := romRead_of_mem (Rom.nodup_keys_of_legal h) he hval.symm
  simp [Regs.step, Regs.start, ho, hend, hread]

end

/-- Settles O26: the bits before the last are shifted in, and leave half of the key for the capture that ends it. -/
theorem everyKeyDecodes : Obligations.EveryKeyDecodes := by
  intro w rom e hw h he
  have hlen := length_half_key_lt hw h he
  have hbits := unterminated_half_key h he
  have houtcomes := Regs.outcomes_unterminated (rom := rom) (r := Regs.start w) rfl hlen.le hbits
  have hacc : ((Regs.start w).after rom (bitsSamples (keyBits (e.key / 2)))).acc.toNat = e.key / 2 :=
    (Regs.after_unterminated_acc rfl hlen.le hbits).trans (bitsValue_keyBits _)
  have hemit := Regs.capture_of_half_key hw h he hacc
  have hsilent : (Regs.start w).emissions rom (bitsSamples (keyBits (e.key / 2))) = [] := by
    refine Regs.emissions_eq_nil_of_outcomes ?_
    rw [houtcomes]
    simp
  rw [keySamples, keyBits_of_legal h he]
  refine ⟨?emissions, ?after, ?outcomes⟩
  case emissions =>
    rw [bitsSamples_append, Regs.emissions_append, hsilent]
    exact (Regs.emissions_bit rom _ false).trans (by rw [hemit]; rfl)
  case after =>
    rw [bitsSamples_append, Regs.after_append]
    exact (Regs.after_bit rom _ false).trans (by rw [hemit])
  case outcomes =>
    rw [Regs.outcomes_bits_concat, houtcomes, hemit, List.length_append, List.length_singleton, Nat.add_sub_cancel]

end Sys2Proof.Machine

/-! ## Reset (70_reset_and_hazards.md section 1) -/

namespace Sys2Proof.Machine

section
variable {s : State} {p : Edge}

theorem State.edge_of_edges_cons {rest : List Edge} (h : s.edges = p :: rest) : s.edge = p := by
  rw [State.edge, h, List.headD_cons]

/-- `rst` is tested before `sample_en`, so the sample's effect is never reached. -/
theorem State.clocked_of_rst (h : p.rst = true) : s.clocked p = s.commit false 0 none := if_pos h

theorem step_of_rst (h : s.edge.rst = true) : step s = .next (s.consumeEdge.commit false 0 none) := by
  rw [step_eq_clocked, State.clocked_of_rst h]

end

/-- Settles O18: a reset edge is the write of RESET's row over the state whose next inputs are consumed. -/
theorem resetClearsWhateverIsPresented : Obligations.ResetClearsWhateverIsPresented := by
  refine ⟨fun _ s => ⟨_, rfl, s.commit_committed false 0 none⟩, fun s p rest hedges hrst => ?_⟩
  have hedge : s.edge.rst = true := by rw [State.edge_of_edges_cons hedges, hrst]
  refine ⟨_, step_of_rst hedge, s.consumeEdge.commit_committed false 0 none, ?_⟩
  rw [State.commit_edges, State.consumeEdge_edges, hedges, List.tail_cons]

end Sys2Proof.Machine
